-- ==== Sys2Proof/Word.lean ====
section
/-! DEFINITION. The words of the block: a byte, a 32-bit word (register, address, count, word of the three 32-bit engines) and a 64-bit word
(one word of the running state bank and of the schedule scratch), rule R6 of spec/00_scope.md (RW, AW, LENW, HW). -/

namespace Sys2Proof

/-- A byte of memory, of the block buffer or of a digest (R50: "a byte is 8 bits"). -/
abbrev Byte := BitVec 8

/-- A register, an address, a length, or a word of SHA1, SHA256 and RMD160 (R6: RW = AW = LENW = 32; R7: WW = 32). -/
abbrev Word32 := BitVec 32

/-- A word of the running state bank H and of the schedule scratch W (R6: HW = 64; R7: WW = 64 for SHA512). -/
abbrev Word64 := BitVec 64

end Sys2Proof
end

