-- ==== Sys2Proof/Machine/Bits.lean ====
section
/-! DEFINITION. The word operations of rule R8 of spec/00_scope.md that Lean's BitVec does not spell the spec's way, the boolean vocabulary `ch`, `maj`,
`parity` of rule R12, and the byte-sequence operations of R8. Addition, and, or, exclusive or and complement are BitVec's own, modulo 2^n. -/

namespace Sys2Proof.Machine

/-- `rotl_n(x, k) = shl_n(x, k) | shr_n(x, n-k)` for 0 < k < n (R8). -/
def rotl {n : Nat} (x : BitVec n) (k : Nat) : BitVec n := (x <<< k) ||| (x >>> (n - k))

/-- `rotr_n(x, k) = shr_n(x, k) | shl_n(x, n-k)` for 0 < k < n (R8). -/
def rotr {n : Nat} (x : BitVec n) (k : Nat) : BitVec n := (x >>> k) ||| (x <<< (n - k))

/-- `shr_n(x, k)`: zeros shifted in at the top (R8). -/
def shr {n : Nat} (x : BitVec n) (k : Nat) : BitVec n := x >>> k

/-- `ch(x, y, z) = (x & y) | (~x & z)` (R12). -/
def ch {n : Nat} (x y z : BitVec n) : BitVec n := (x &&& y) ||| (~~~x &&& z)

/-- `maj(x, y, z) = (x & y) | (x & z) | (y & z)` (R12). -/
def maj {n : Nat} (x y z : BitVec n) : BitVec n := (x &&& y) ||| (x &&& z) ||| (y &&& z)

/-- `parity(x, y, z) = x ^ y ^ z` (R12). -/
def parity {n : Nat} (x y z : BitVec n) : BitVec n := x ^^^ y ^^^ z

/-- `zext_64(v)` of a 32-bit word (R8). -/
def zext64 (v : Word32) : Word64 := v.setWidth 64

/-- `trunc_32(v)` of a 64-bit word (R8). -/
def trunc32 (v : Word64) : Word32 := v.setWidth 32

/-- `zeros(n)`: n bytes 0x00 (R8). -/
def zeros (n : Nat) : List Byte := List.replicate n 0

/-- `rep(b, n)`: n copies of byte b (R8). -/
def rep (b : Byte) (n : Nat) : List Byte := List.replicate n b

/-- `a xor b` on equal-length byte sequences (R8). -/
def xorBytes (a b : List Byte) : List Byte := List.zipWith (· ^^^ ·) a b

/-- `ceil_div(a, b) = (a +int b -int 1) div b` (R8). -/
def ceilDiv (a b : Nat) : Nat := (a + b - 1) / b

end Sys2Proof.Machine
end

