-- ==== Sys2Proof/Config.lean ====
section
/-! DEFINITION. What is fixed for the block: the algorithm and operation names, the rejection codes, the parameters of rule R6, and the
FREE VALUES, constants with no body that stand for what the spec leaves unspecified (races and a reset in mid-command). -/

namespace Sys2Proof

/-- The four algorithms of the ALG field, rule R73 of spec/30_encoding.md. -/
inductive Alg where
  | sha1 | sha256 | sha512 | rmd160
deriving DecidableEq, Repr

/-- The eight operations of the OP field, rule R72 of spec/30_encoding.md. -/
inductive Op where
  | init | compress | final | storeh | digest | hmac | pbkdf | zeroize
deriving DecidableEq, Repr

/-- The four causes of rejection, rule R211 of spec/60_exceptions.md. -/
inductive ErrCode where
  /-- `E_ILLCMD`: the word is not one of the 29 legal command words. -/
  | illCmd
  /-- `E_ROUNDS`: PBKDF with ROUNDS = 0. -/
  | rounds
  /-- `E_ADDR`: a region of the command runs past the top of the address space. -/
  | addr
  /-- `E_OVERLAP`: the PBKDF output region meets the password or the salt region. -/
  | overlap
deriving DecidableEq, Repr

/-- The number of byte addresses of the memory port: 2^AW with AW = 32 (R6, R50). -/
def Config.memorySize : Nat := 2 ^ 32

/-- What a byte of memory that nothing has written reads as.
DESIGN CHOICE (log entry 1): R38 leaves the contents of memory to the platform; the model fixes 0x00. Unsafe. -/
def Config.unlistedByte : Byte := 0

/-- FREE VALUE (log entries 6 and 15; R238, U10): the byte at an address of the output region of a command whose input region another agent wrote
while it ran. First argument: the free-value counter of State; second: the address. No body: nothing is known of it. -/
opaque Config.racedByte : Nat → Nat → Byte

/-- FREE VALUE (log entries 6, 7 and 15; R232, R238, U10, U11): whether a byte of an output region that the spec calls an unspecified mixture of
old and new is the new one. First argument: the free-value counter of State; second: the address. No body: nothing is known of it. -/
opaque Config.takesNew : Nat → Nat → Bool

end Sys2Proof
end

