-- ==== Sys2Proof/Syntax.lean ====
section
/-! DEFINITION. The 29 commands of the block, one constructor per row of spec/opcode_table.json (R75). A command word carries no operand: every operand
is in an operand register (R71, R74), so no constructor has an argument. -/

namespace Sys2Proof

/-- The commands, in the order of the opcode table (R75). -/
inductive Instr where
  /-- `INIT.SHA1`, rule R191. -/
  | initSha1
  /-- `INIT.SHA256`, rule R192. -/
  | initSha256
  /-- `INIT.SHA512`, rule R193. -/
  | initSha512
  /-- `INIT.RMD160`, rule R194. -/
  | initRmd160
  /-- `COMPRESS.SHA1`, rule R195. -/
  | compressSha1
  /-- `COMPRESS.SHA256`, rule R196. -/
  | compressSha256
  /-- `COMPRESS.SHA512`, rule R197. -/
  | compressSha512
  /-- `COMPRESS.RMD160`, rule R198. -/
  | compressRmd160
  /-- `FINAL.SHA1`, rule R200. -/
  | finalSha1
  /-- `FINAL.SHA256`, rule R201. -/
  | finalSha256
  /-- `FINAL.SHA512`, rule R202. -/
  | finalSha512
  /-- `FINAL.RMD160`, rule R203. -/
  | finalRmd160
  /-- `STOREH.SHA1`, rule R205. -/
  | storehSha1
  /-- `STOREH.SHA256`, rule R206. -/
  | storehSha256
  /-- `STOREH.SHA512`, rule R207. -/
  | storehSha512
  /-- `STOREH.RMD160`, rule R208. -/
  | storehRmd160
  /-- `DIGEST.SHA1`, rule R160. -/
  | digestSha1
  /-- `DIGEST.SHA256`, rule R161. -/
  | digestSha256
  /-- `DIGEST.SHA512`, rule R162. -/
  | digestSha512
  /-- `DIGEST.RMD160`, rule R163. -/
  | digestRmd160
  /-- `HMAC.SHA1`, rule R174. -/
  | hmacSha1
  /-- `HMAC.SHA256`, rule R175. -/
  | hmacSha256
  /-- `HMAC.SHA512`, rule R176. -/
  | hmacSha512
  /-- `HMAC.RMD160`, rule R177. -/
  | hmacRmd160
  /-- `PBKDF.SHA1`, rule R184. -/
  | pbkdfSha1
  /-- `PBKDF.SHA256`, rule R185. -/
  | pbkdfSha256
  /-- `PBKDF.SHA512`, rule R186. -/
  | pbkdfSha512
  /-- `PBKDF.RMD160`, rule R187. -/
  | pbkdfRmd160
  /-- `ZEROIZE`, rule R209. -/
  | zeroize
deriving DecidableEq, Repr

end Sys2Proof
end

