-- ==== Sys2Proof/WellFormed.lean ====
section
/-! DEFINITION. Well-formedness of a command word: the four checks of rule R76 of spec/30_encoding.md, each under a name of its own. The commands of
Syntax.lean have no operands, so what can be ill formed is the 32-bit word a host writes. -/

namespace Sys2Proof

/-- The OP field, bits 3:0 of the command word (R71). -/
def opField (w : Word32) : BitVec 4 := w.extractLsb' 0 4

/-- The ALG field, bits 5:4 of the command word (R71). -/
def algField (w : Word32) : BitVec 2 := w.extractLsb' 4 2

/-- The ZERO field, bits 31:6 of the command word (R71). -/
def zeroField (w : Word32) : BitVec 26 := w.extractLsb' 6 26

/-- R76 (a): bits 31:6 are zero. -/
def reservedBitsZero (w : Word32) : Bool := zeroField w == 0

/-- R76 (b): OP is not 0. -/
def opNotZero (w : Word32) : Bool := opField w != 0

/-- R76 (c): OP is not in 0x9 to 0xF. -/
def opNotReserved (w : Word32) : Bool := decide (opField w < 9)

/-- R76 (d): with OP = 0x8 (ZEROIZE) ALG is 0. -/
def zeroizeAlgZero (w : Word32) : Bool := opField w != 8 || algField w == 0

/-- The word is one of the 29 legal command words: none of the four conditions of R76 makes it illegal. -/
def wordWellFormed (w : Word32) : Bool :=
  reservedBitsZero w && opNotZero w && opNotReserved w && zeroizeAlgZero w

end Sys2Proof
end

