-- ==== Sys2Proof/Decode.lean ====
section
/-! DEFINITION. The decoder of rule R79 of spec/30_encoding.md, total on 32-bit words, and after it the encoder, written from the code tables of rules
R72 and R73. There is one command length and one format (R70, R77). -/

namespace Sys2Proof

/-- `opname` of R79: the operation an OP code names (R72); 0x0 and 0x9 to 0xF are reserved. -/
def opName (c : BitVec 4) : Option Op :=
  if c = 0x1 then some .init
  else if c = 0x2 then some .compress
  else if c = 0x3 then some .final
  else if c = 0x4 then some .storeh
  else if c = 0x5 then some .digest
  else if c = 0x6 then some .hmac
  else if c = 0x7 then some .pbkdf
  else if c = 0x8 then some .zeroize
  else none

/-- `algname` of R79: the algorithm an ALG code names (R73). -/
def algName (c : BitVec 2) : Alg :=
  if c = 0 then .sha1
  else if c = 1 then .sha256
  else if c = 2 then .sha512
  else .rmd160

/-- The command of an operation and an algorithm; ZEROIZE exists with ALG = 0 only (R73, R76 (d)). -/
def instrOf : Op → Alg → Option Instr
  | .init, .sha1 => some .initSha1
  | .init, .sha256 => some .initSha256
  | .init, .sha512 => some .initSha512
  | .init, .rmd160 => some .initRmd160
  | .compress, .sha1 => some .compressSha1
  | .compress, .sha256 => some .compressSha256
  | .compress, .sha512 => some .compressSha512
  | .compress, .rmd160 => some .compressRmd160
  | .final, .sha1 => some .finalSha1
  | .final, .sha256 => some .finalSha256
  | .final, .sha512 => some .finalSha512
  | .final, .rmd160 => some .finalRmd160
  | .storeh, .sha1 => some .storehSha1
  | .storeh, .sha256 => some .storehSha256
  | .storeh, .sha512 => some .storehSha512
  | .storeh, .rmd160 => some .storehRmd160
  | .digest, .sha1 => some .digestSha1
  | .digest, .sha256 => some .digestSha256
  | .digest, .sha512 => some .digestSha512
  | .digest, .rmd160 => some .digestRmd160
  | .hmac, .sha1 => some .hmacSha1
  | .hmac, .sha256 => some .hmacSha256
  | .hmac, .sha512 => some .hmacSha512
  | .hmac, .rmd160 => some .hmacRmd160
  | .pbkdf, .sha1 => some .pbkdfSha1
  | .pbkdf, .sha256 => some .pbkdfSha256
  | .pbkdf, .sha512 => some .pbkdfSha512
  | .pbkdf, .rmd160 => some .pbkdfRmd160
  | .zeroize, .sha1 => some .zeroize
  | .zeroize, .sha256 | .zeroize, .sha512 | .zeroize, .rmd160 => none

/-- `decode` of R79: the command a 32-bit word is, or nothing where the word is illegal (R76). -/
def decode (w : Word32) : Option Instr :=
  if zeroField w = 0 then
    match opName (opField w) with
    | some op => instrOf op (algName (algField w))
    | none => none
  else none

/-- The operation of a command (the OP name of its mnemonic, R78). -/
def Instr.op : Instr → Op
  | .initSha1 | .initSha256 | .initSha512 | .initRmd160 => .init
  | .compressSha1 | .compressSha256 | .compressSha512 | .compressRmd160 => .compress
  | .finalSha1 | .finalSha256 | .finalSha512 | .finalRmd160 => .final
  | .storehSha1 | .storehSha256 | .storehSha512 | .storehRmd160 => .storeh
  | .digestSha1 | .digestSha256 | .digestSha512 | .digestRmd160 => .digest
  | .hmacSha1 | .hmacSha256 | .hmacSha512 | .hmacRmd160 => .hmac
  | .pbkdfSha1 | .pbkdfSha256 | .pbkdfSha512 | .pbkdfRmd160 => .pbkdf
  | .zeroize => .zeroize

/-- The algorithm of a command (the ALG name of its mnemonic, R78); ZEROIZE has ALG = 0, which is SHA1's code (R73). -/
def Instr.alg : Instr → Alg
  | .initSha1 | .compressSha1 | .finalSha1 | .storehSha1 | .digestSha1 | .hmacSha1 | .pbkdfSha1 | .zeroize => .sha1
  | .initSha256 | .compressSha256 | .finalSha256 | .storehSha256 | .digestSha256 | .hmacSha256 | .pbkdfSha256 => .sha256
  | .initSha512 | .compressSha512 | .finalSha512 | .storehSha512 | .digestSha512 | .hmacSha512 | .pbkdfSha512 => .sha512
  | .initRmd160 | .compressRmd160 | .finalRmd160 | .storehRmd160 | .digestRmd160 | .hmacRmd160 | .pbkdfRmd160 => .rmd160

/-- The OP code of an operation (R72). -/
def Op.code : Op → BitVec 4
  | .init => 0x1 | .compress => 0x2 | .final => 0x3 | .storeh => 0x4
  | .digest => 0x5 | .hmac => 0x6 | .pbkdf => 0x7 | .zeroize => 0x8

/-- The ALG code of an algorithm (R73). -/
def Alg.code : Alg → BitVec 2
  | .sha1 => 0 | .sha256 => 1 | .sha512 => 2 | .rmd160 => 3

/-- The command word of an operation and an algorithm: ZERO, ALG, OP from the top bit down (R71). -/
def commandWord (op : Op) (alg : Alg) : Word32 := (0 : BitVec 26) ++ alg.code ++ op.code

/-- `encode` of R79: the word of a command. -/
def encode (i : Instr) : Word32 := commandWord i.op i.alg

/-- The host's reading of the opcode table: the command the decoder reads from the first `nbits` bits of `w`. A command is one 32-bit value with
no byte layout of its own (R70), so bits above bit 31 make it no command. -/
def decodeTableWord (nbits w : Nat) : Option Instr :=
  if w % 2 ^ nbits < 2 ^ 32 then decode (BitVec.ofNat 32 (w % 2 ^ nbits)) else none

end Sys2Proof
end

