-- ==== Sys2Proof/Machine/State.lean ====
section
/-! DEFINITION. The state of one CORE instance (R20, R38 of spec/10_state.md), the memory it shares with the host (R50 to R54 of spec/20_memory.md),
and, as the MODEL's own fields, what the host and the platform are about to do (accesses to come, durations of commands, free-value counter).
Every field is plain data. -/

namespace Sys2Proof.Machine

/-- The memory: (address, byte) pairs, addresses strictly rising, below 2^32, no entry equal to `Config.unlistedByte` (see `Memory.wf`). -/
abbrev Memory := List Host.Cell

/-- The one canonical form of a memory: strictly rising addresses inside the address space, and no entry that an unlisted address would read as. -/
abbrev Memory.wf (m : Memory) : Prop :=
  m.Pairwise (fun c d => c.1 < d.1) ∧ ∀ c ∈ m, c.1 < Config.memorySize ∧ c.2 ≠ Config.unlistedByte

/-- The bits of STATUS that exist (R24); bit 3 and bits 31:9 are reserved, read 0 and hold nothing. -/
structure Status where
  /-- Bit 0: a command is in progress. -/
  busy : Bool
  /-- Bit 1: the last issued command was accepted and has completed. -/
  done : Bool
  /-- Bit 2: the last issued command word was rejected. -/
  err : Bool
  /-- Bits 7:4: the rejection code of R211. -/
  ecode : BitVec 4
  /-- Bit 8: a register write was dropped because BUSY was 1; sticky. -/
  wdrop : Bool
deriving DecidableEq, Repr

/-- One action of an agent outside the block, in the order it reaches the block (R20, R78, R230). -/
inductive HostAccess where
  /-- `WR`: an aligned 32-bit write of `v` to the window at byte offset `off` (R34). -/
  | regWrite (off : Nat) (v : Word32)
  /-- `RD`: an aligned 32-bit read of the window at byte offset `off` (R33). -/
  | regRead (off : Nat)
  /-- A window access of another width (a byte, a halfword, more than 32 bits): outside the spec (R36). -/
  | regOtherWidth (off : Nat) (bytes : Nat)
  /-- `ST`: a store of `bytes` to memory from `addr` on, by the host or by any other master (R20, R240). -/
  | memStore (addr : Nat) (bytes : List Byte)
  /-- `LD`: a load of `n` bytes of memory from `addr` on, by the host or by any other master (R20, R240). -/
  | memLoad (addr : Nat) (n : Nat)
  /-- The reset input is asserted (R230). -/
  | reset
deriving DecidableEq, Repr

/-- What a read gives back to its agent: the value of a register, or bytes of memory. -/
inductive HostReply where
  | word (v : Word32)
  | bytes (bs : List Byte)
deriving DecidableEq, Repr

/-- MODEL'S OWN: a command that has completed, or that a reset has abandoned, while no RegRead of STATUS has returned BUSY = 0 since: its memory regions
still belong to the block (R238). -/
structure Unread where
  /-- Its input regions (base, byte count). -/
  inputs : List (Nat × Nat)
  /-- Its output region (base, byte count). -/
  output : Nat × Nat
  /-- The memory as it would be without the command's own writes: the old bytes a reader of the output region may still see. -/
  before : Memory
deriving DecidableEq, Repr

/-- The whole state: R20's tuple, the memory, and the model's own fields (the last seven). -/
structure State where
  /-- Operand registers `x[0..6]` = SRC, LEN, DST, KEY, KEYLEN, ROUNDS, OUTLEN (R21). -/
  x : Vector Word32 7
  /-- CMD: the last accepted command word (R23). -/
  cmd : Word32
  /-- STATUS (R24). -/
  status : Status
  /-- The running state bank `H[0..7]` (R26). -/
  h : Vector Word64 8
  /-- The block buffer `BLK[0..127]` (R28). -/
  blk : Vector Byte 128
  /-- Hidden scratch: the message schedule `W[0..79]` (R29). -/
  w : Vector Word64 80
  /-- Hidden scratch: the block-sized key `K0[0..127]` (R29). -/
  k0 : Vector Byte 128
  /-- Hidden scratch: the inner hash `IH[0..63]` (R29). -/
  ih : Vector Byte 64
  /-- Hidden scratch: the running output `U[0..63]` of PBKDF (R29). -/
  u : Vector Byte 64
  /-- Hidden scratch: the accumulator `T[0..63]` of PBKDF (R29). -/
  t : Vector Byte 64
  /-- The memory shared with the host (R20, R50). -/
  mem : Memory
  /-- MODEL'S OWN: the accesses of the agents outside the block that are still to come, first one first (log entry 2). -/
  inbox : List HostAccess
  /-- MODEL'S OWN: what the reads so far gave back, newest first (log entry 2). -/
  outbox : List HostReply
  /-- MODEL'S OWN: the platform's durations, in steps, of the commands to come; an empty list stands for durations 0 (R243, D28; log entry 3). -/
  latency : List Nat
  /-- MODEL'S OWN: while BUSY = 1, the steps left before the command completes (log entry 3). -/
  remaining : Nat
  /-- MODEL'S OWN: the memory regions (base, byte count) another agent stored to since the running command was accepted (R238; log entry 6). -/
  stores : List (Nat × Nat)
  /-- MODEL'S OWN: the completed or abandoned commands no read of STATUS has shown yet, newest first (R238, D20; log entry 15). -/
  unread : List Unread
  /-- MODEL'S OWN: the free-value counter, advanced whenever a free value is read (log entries 6 and 7). -/
  freeCount : Nat
deriving DecidableEq, Repr

/-- The reasons the machine stops with a fault. No command raises one. -/
inductive Fault where
  /-- Raised by a host load or store whose bytes do not all lie below 2^32: such an address does not exist (R50). Safe: the model stops. -/
  | absentAddress
  /-- Raised by the completion step when BUSY = 1 and CMD holds no legal command word, a state no run from reset reaches (R31; log entry 8). Safe. -/
  | busyWithoutCommand
deriving DecidableEq, Repr

/-- The reasons the machine gives no meaning to what it is asked. -/
inductive Refusal where
  /-- Raised by exec for a command that has no meaning yet, by its mnemonic. Safe: the model stops. -/
  | notModelled (mnemonic : String)
  /-- Raised by a window access that is not an aligned 32-bit access at an offset below 0x100: outside the spec (R36, U6). Safe: the model stops. -/
  | windowAccess
deriving DecidableEq, Repr

/-- STATUS after reset: 0x00000000 (R38). -/
def Status.reset : Status := { busy := false, done := false, err := false, ecode := 0, wdrop := false }

/-- The machine right after reset (R38, R231): every register and every hidden array zero, STATUS 0; memory with nothing listed (log entry 1); no access
pending, every duration 0 (log entries 2 and 3), no race and no unread command, free-value counter 0 (log entries 6 and 15). -/
def State.reset : State where
  x := .replicate 7 0
  cmd := 0
  status := Status.reset
  h := .replicate 8 0
  blk := .replicate 128 0
  w := .replicate 80 0
  k0 := .replicate 128 0
  ih := .replicate 64 0
  u := .replicate 64 0
  t := .replicate 64 0
  mem := []
  inbox := []
  outbox := []
  latency := []
  remaining := 0
  stores := []
  unread := []
  freeCount := 0

end Sys2Proof.Machine
end

