-- ==== Sys2Proof/Machine/Flags.lean ====
section
/-! DEFINITION. STATUS (R24 of spec/10_state.md) and its changes: the rejection codes of R211, and the three transitions of R212, R214 and R215.
The block has no other flag (R32). -/

namespace Sys2Proof.Machine

/-- The ECODE value of a cause of rejection (R211). -/
def errValue : ErrCode → BitVec 4
  | .illCmd => 1
  | .rounds => 2
  | .addr => 3
  | .overlap => 4

/-- One bit as a word. -/
def bit32 (b : Bool) : Word32 := if b then 1 else 0

/-- STATUS as a RegRead returns it: BUSY bit 0, DONE bit 1, ERR bit 2, ECODE bits 7:4, WDROP bit 8, every other bit 0 (R24). -/
def statusWord (st : Status) : Word32 :=
  bit32 st.busy ||| bit32 st.done <<< 1 ||| bit32 st.err <<< 2 ||| st.ecode.setWidth 32 <<< 4 ||| bit32 st.wdrop <<< 8

/-- STATUS after a rejection with code `c`: DONE 0, ERR 1, ECODE c; BUSY and WDROP unchanged (R212). -/
def statusRejected (c : ErrCode) (st : Status) : Status :=
  { st with done := false, err := true, ecode := errValue c }

/-- STATUS after acceptance: BUSY 1, DONE 0, ERR 0, ECODE 0; WDROP unchanged (R214). -/
def statusAccepted (st : Status) : Status :=
  { st with busy := true, done := false, err := false, ecode := 0 }

/-- STATUS after completion: BUSY 0 and DONE 1 as one change (R215). -/
def statusCompleted (st : Status) : Status :=
  { st with busy := false, done := true }

/-- STATUS after a register write was dropped: WDROP 1 (R34, R217). -/
def statusDropped (st : Status) : Status := { st with wdrop := true }

/-- STATUS after a write of `v` to it while idle: WDROP is cleared where bit 8 of `v` is 1, and nothing else happens (R24). -/
def statusWritten (v : Word32) (st : Status) : Status :=
  if v.getLsbD 8 then { st with wdrop := false } else st

end Sys2Proof.Machine
end

