-- ==== Sys2Proof/Machine/Ops.lean ====
section
/-! DEFINITION. The operations over memory and registers that the meanings share: MemRead and MemWrite (R53, R54), `zeroize` (R30), and the issue of a
command: rejection (R212), which is all this block has in place of an exception (R219), acceptance (R214) and completion (R215). -/

namespace Sys2Proof.Machine

/-- The byte memory holds at an address; an address not listed reads as `Config.unlistedByte` (R52, log entry 1). -/
def readByte : Memory → Nat → Byte
  | [], _ => Config.unlistedByte
  | (k, b) :: rest, a => if k = a then b else readByte rest a

/-- A cell in front of a memory whose addresses are higher, left out where it holds what an unlisted address reads as. -/
def consCell (a : Nat) (b : Byte) (rest : Memory) : Memory :=
  if b = Config.unlistedByte then rest else (a, b) :: rest

/-- One byte write, keeping the canonical form (R54). -/
def writeByte : Memory → Nat → Byte → Memory
  | [], a, b => consCell a b []
  | (k, c) :: rest, a, b =>
    if a < k then consCell a b ((k, c) :: rest)
    else if a = k then consCell a b rest
    else (k, c) :: writeByte rest a b

/-- `MemRead(addr, n)`: n byte reads in ascending address order (R53). -/
def readBytes (m : Memory) (addr : Nat) : Nat → List Byte
  | 0 => []
  | n + 1 => readByte m addr :: readBytes m (addr + 1) n

/-- `MemWrite(addr, len v, v)`: byte writes in ascending address order (R54). -/
def writeBytes (m : Memory) (addr : Nat) : List Byte → Memory
  | [] => m
  | b :: v => writeBytes (writeByte m addr b) (addr + 1) v

/-- `zeroize()` (R30): H, BLK and the hidden scratch become zero; nothing else is touched. -/
def zeroizeState (s : State) : State :=
  { s with
    h := .replicate 8 0, blk := .replicate 128 0, w := .replicate 80 0, k0 := .replicate 128 0
    ih := .replicate 64 0, u := .replicate 64 0, t := .replicate 64 0 }

/-- Rejection with code `c`: STATUS changes, nothing else does (R212). -/
def reject (c : ErrCode) (s : State) : State := { s with status := statusRejected c s.status }

/-- Acceptance of the command word `w`: CMD holds it and STATUS says busy (R214). -/
def accept (w : Word32) (s : State) : State := { s with cmd := w, status := statusAccepted s.status }

/-- Completion: BUSY 0 and DONE 1 (R215). -/
def complete (s : State) : State := { s with status := statusCompleted s.status }

end Sys2Proof.Machine
end

