-- ==== Sys2Proof/Machine/Params.lean ====
section
/-! DEFINITION. The per-algorithm parameters of rule R7 of spec/00_scope.md, one function per column of its table that a later rule uses. -/

namespace Sys2Proof

/-- `NW`: the words of the running state (R7). -/
def Alg.stateWords : Alg → Nat
  | .sha1 => 5 | .sha256 => 8 | .sha512 => 8 | .rmd160 => 5

/-- `BS`: the bytes of a block (R7). -/
def Alg.blockBytes : Alg → Nat
  | .sha1 => 64 | .sha256 => 64 | .sha512 => 128 | .rmd160 => 64

/-- `HL`: the bytes of a digest (R7). -/
def Alg.digestBytes : Alg → Nat
  | .sha1 => 20 | .sha256 => 32 | .sha512 => 64 | .rmd160 => 20

/-- `LF`: the bytes of the length field (R7). -/
def Alg.lengthBytes : Alg → Nat
  | .sha1 => 8 | .sha256 => 8 | .sha512 => 16 | .rmd160 => 8

end Sys2Proof
end

