-- ==== Sys2Proof/Machine/Operands.lean ====
section
/-! DEFINITION. The operands of the commands: the seven operand registers by name (R21), the memory regions they name (R51), and the checks at issue, in
their order (R213). A command word carries no immediate and nothing is scaled or extended (R74). -/

namespace Sys2Proof.Machine

/-- `SRC` = x[0] (R21). -/
def State.src (s : State) : Word32 := s.x[0]
/-- `LEN` = x[1] (R21). -/
def State.len (s : State) : Word32 := s.x[1]
/-- `DST` = x[2] (R21). -/
def State.dst (s : State) : Word32 := s.x[2]
/-- `KEY` = x[3] (R21). -/
def State.key (s : State) : Word32 := s.x[3]
/-- `KEYLEN` = x[4] (R21). -/
def State.keylen (s : State) : Word32 := s.x[4]
/-- `ROUNDS` = x[5] (R21). -/
def State.rounds (s : State) : Word32 := s.x[5]
/-- `OUTLEN` = x[6] (R21). -/
def State.outlen (s : State) : Word32 := s.x[6]

/-- A region is a pair (base, n): the addresses base, …, base + n - 1, as integers (R51). -/
abbrev Region := Nat × Nat

/-- A region wraps when `base +int n > 2^32` (R51); one that ends at the last byte does not (R213). -/
def regionWraps (r : Region) : Bool := decide (Config.memorySize < r.1 + r.2)

/-- `overlap` of R213: the two regions are not empty and share an address. -/
def regionsOverlap (r q : Region) : Bool :=
  decide (0 < r.2) && decide (0 < q.2) && decide (r.1 < q.1 + q.2) && decide (q.1 < r.1 + r.2)

/-- The address lies in the region (R51). -/
def inRegion (r : Region) (a : Nat) : Bool := decide (r.1 ≤ a) && decide (a < r.1 + r.2)

/-- (`SRC`, `LEN`): the message, the data or the salt (R51). -/
def sourceRegion (s : State) : Region := (s.src.toNat, s.len.toNat)

/-- (`KEY`, `KEYLEN`): the key or the password (R51). -/
def keyRegion (s : State) : Region := (s.key.toNat, s.keylen.toNat)

/-- The input regions of a command (R51). -/
def inputRegions (op : Op) (s : State) : List Region :=
  match op with
  | .digest => [sourceRegion s]
  | .hmac | .pbkdf => [sourceRegion s, keyRegion s]
  | .init | .compress | .final | .storeh | .zeroize => []

/-- The output region of a command; for one that writes no memory, an empty region (R51). -/
def outputRegion (op : Op) (alg : Alg) (s : State) : Region :=
  match op with
  | .storeh | .digest | .hmac => (s.dst.toNat, alg.digestBytes)
  | .pbkdf => (s.dst.toNat, s.outlen.toNat)
  | .init | .compress | .final | .zeroize => (0, 0)

/-- The PBKDF output region shares an address with the salt or the password region (R213, priority 4). -/
def outputMeetsInput (s : State) : Bool :=
  regionsOverlap (s.dst.toNat, s.outlen.toNat) (keyRegion s) || regionsOverlap (s.dst.toNat, s.outlen.toNat) (sourceRegion s)

/-- The checks of a legal command word at issue, in the order of R213; the first that fails gives the code. -/
def issueCheck (op : Op) (alg : Alg) (s : State) : Option ErrCode :=
  if op = .pbkdf ∧ s.rounds = 0 then some .rounds
  else if (inputRegions op s ++ [outputRegion op alg s]).any regionWraps then some .addr
  else if op = .pbkdf ∧ outputMeetsInput s = true then some .overlap
  else none

/-- The issue of one command: the checks, then rejection, or acceptance, the command's own effect and completion as one step (R213 to R215). -/
def issueCommand (op : Op) (alg : Alg) (effect : State → State) (s : State) : Host.Outcome State Fault Refusal :=
  match issueCheck op alg s with
  | some c => .next (reject c s)
  | none => .next (complete (effect (accept (commandWord op alg) s)))

end Sys2Proof.Machine
end

