-- ==== Sys2Proof/Machine/ByteOrder.lean ====
section
/-! DEFINITION. The byteorder_converter, spec/40_byteorder.md: the seven conversions of rules R91 to R97 and the per-algorithm selections of rule R98.
A load reads the first 4 or 8 bytes of the sequence it is given. -/

namespace Sys2Proof.Machine

/-- Byte `i` of a sequence (R8); the callers' indices are in range. -/
def byteAt (b : List Byte) (i : Nat) : Byte := b.getD i 0

/-- `ld_be32`: the byte at the lowest index is the most significant (R91). -/
def ldBe32 (b : List Byte) : Word32 := byteAt b 0 ++ byteAt b 1 ++ byteAt b 2 ++ byteAt b 3

/-- `ld_le32`: the byte at the lowest index is the least significant (R92). -/
def ldLe32 (b : List Byte) : Word32 := byteAt b 3 ++ byteAt b 2 ++ byteAt b 1 ++ byteAt b 0

/-- `ld_be64` (R93). -/
def ldBe64 (b : List Byte) : Word64 :=
  byteAt b 0 ++ byteAt b 1 ++ byteAt b 2 ++ byteAt b 3 ++ byteAt b 4 ++ byteAt b 5 ++ byteAt b 6 ++ byteAt b 7

/-- Byte lane `n` of a word: bits `8n+7 : 8n`. -/
def lane {w : Nat} (v : BitVec w) (n : Nat) : Byte := v.extractLsb' (8 * n) 8

/-- `st_be32`: most significant byte first (R94). -/
def stBe32 (v : Word32) : List Byte := [lane v 3, lane v 2, lane v 1, lane v 0]

/-- `st_le32`: least significant byte first (R95). -/
def stLe32 (v : Word32) : List Byte := [lane v 0, lane v 1, lane v 2, lane v 3]

/-- `st_be64` (R96). -/
def stBe64 (v : Word64) : List Byte :=
  [lane v 7, lane v 6, lane v 5, lane v 4, lane v 3, lane v 2, lane v 1, lane v 0]

/-- `st_le64`: used only for the bit-length field of RMD160 (R97). -/
def stLe64 (v : Word64) : List Byte :=
  [lane v 0, lane v 1, lane v 2, lane v 3, lane v 4, lane v 5, lane v 6, lane v 7]

/-- `n` words of `size` bytes each, loaded one after the other from a byte sequence: `block_words` of R98 with the algorithm's load. -/
def loadWords {w : Nat} (load : List Byte → BitVec w) (size : Nat) : Nat → List Byte → List (BitVec w)
  | 0, _ => []
  | n + 1, b => load b :: loadWords load size n (b.drop size)

/-- `length_bytes(alg, bitlen)` (R98): LF bytes in the algorithm's byte order, the high 8 bytes of SHA512's field zero. -/
def lengthField (alg : Alg) (bitlen : Word64) : List Byte :=
  match alg with
  | .sha1 | .sha256 => stBe64 bitlen
  | .sha512 => zeros 8 ++ stBe64 bitlen
  | .rmd160 => stLe64 bitlen

/-- `state_bytes(alg, h)` (R98) on the running state bank: the NW words in order, 32-bit words from the low halves (R26). -/
def stateBytes (alg : Alg) (h : Vector Word64 8) : List Byte :=
  match alg with
  | .sha1 => (h.toList.take 5).flatMap fun v => stBe32 (trunc32 v)
  | .sha256 => h.toList.flatMap fun v => stBe32 (trunc32 v)
  | .sha512 => h.toList.flatMap stBe64
  | .rmd160 => (h.toList.take 5).flatMap fun v => stLe32 (trunc32 v)

end Sys2Proof.Machine
end

