-- ==== Sys2Proof/Machine/Schedule.lean ====
section
/-! DEFINITION. The message_schedule_expander, spec/41_schedule.md: the schedule words of one block, for each algorithm (R101 to R104).
The expanders build the schedule NEWEST WORD FIRST, so that `W[t-k]` stands at position `k-1`, and turn it round at the end. -/

namespace Sys2Proof.Machine

/-- The schedule word `W[t-k]`, when `r` holds `W[t-1]`, `W[t-2]`, … in that order. -/
def back {w : Nat} (r : List (BitVec w)) (k : Nat) : BitVec w := r.getD (k - 1) 0

/-- Extend a schedule (newest word first) by `n` words, each computed by `next` from the words before it. -/
def expand {w : Nat} (next : List (BitVec w) → BitVec w) : Nat → List (BitVec w) → List (BitVec w)
  | 0, r => r
  | n + 1, r => expand next n (next r :: r)

/-- The recurrence of R101: `rotl_32(W[t-3] ^ W[t-8] ^ W[t-14] ^ W[t-16], 1)`. -/
def sha1Next (r : List Word32) : Word32 := rotl (back r 3 ^^^ back r 8 ^^^ back r 14 ^^^ back r 16) 1

/-- `mse_sha1` (R101): 80 words. -/
def mseSha1 (blk : List Byte) : List Word32 :=
  (expand sha1Next 64 (loadWords ldBe32 4 16 blk).reverse).reverse

/-- `ssig0_256` (R102). -/
def ssig0_256 (x : Word32) : Word32 := rotr x 7 ^^^ rotr x 18 ^^^ shr x 3

/-- `ssig1_256` (R102). -/
def ssig1_256 (x : Word32) : Word32 := rotr x 17 ^^^ rotr x 19 ^^^ shr x 10

/-- The recurrence of R102, modulo 2^32. -/
def sha256Next (r : List Word32) : Word32 := ssig1_256 (back r 2) + back r 7 + ssig0_256 (back r 15) + back r 16

/-- `mse_sha256` (R102): 64 words. -/
def mseSha256 (blk : List Byte) : List Word32 :=
  (expand sha256Next 48 (loadWords ldBe32 4 16 blk).reverse).reverse

/-- `ssig0_512` (R103). -/
def ssig0_512 (x : Word64) : Word64 := rotr x 1 ^^^ rotr x 8 ^^^ shr x 7

/-- `ssig1_512` (R103). -/
def ssig1_512 (x : Word64) : Word64 := rotr x 19 ^^^ rotr x 61 ^^^ shr x 6

/-- The recurrence of R103, modulo 2^64. -/
def sha512Next (r : List Word64) : Word64 := ssig1_512 (back r 2) + back r 7 + ssig0_512 (back r 15) + back r 16

/-- `mse_sha512` (R103): 80 words. -/
def mseSha512 (blk : List Byte) : List Word64 :=
  (expand sha512Next 64 (loadWords ldBe64 8 16 blk).reverse).reverse

/-- `mse_rmd160` (R104): the 16 little-endian words of the block, no expansion. -/
def mseRmd160 (blk : List Byte) : List Word32 := loadWords ldLe32 4 16 blk

end Sys2Proof.Machine
end

