-- ==== Sys2Proof/Machine/Sha1.lean ====
section
/-! DEFINITION. The sha1_compression_engine, spec/42_sha1.md: constants (R111), stage functions (R112), compression function (R113). -/

namespace Sys2Proof.Machine

/-- Five 32-bit words: the running state of SHA1 and RMD160 and the working variables (a, b, c, d, e) of their rounds. -/
structure Words5 where
  a : Word32
  b : Word32
  c : Word32
  d : Word32
  e : Word32
deriving DecidableEq, Repr

/-- `IV_SHA1` (R111). -/
def ivSha1 : Words5 := ⟨0x67452301, 0xefcdab89, 0x98badcfe, 0x10325476, 0xc3d2e1f0⟩

/-- `K_SHA1[s]`, one constant per stage (R111). -/
def kSha1 : Nat → Word32
  | 0 => 0x5a827999
  | 1 => 0x6ed9eba1
  | 2 => 0x8f1bbcdc
  | _ => 0xca62c1d6

/-- The mixing function `f_s` of a stage: ch, parity, maj, parity (R112; spec/90_conflicts.md C2). -/
def fSha1 (s : Nat) (x y z : Word32) : Word32 :=
  match s with
  | 0 => ch x y z
  | 1 => parity x y z
  | 2 => maj x y z
  | _ => parity x y z

/-- Round `t` with schedule word `wt` (R113). -/
def sha1Round (t : Nat) (wt : Word32) (v : Words5) : Words5 :=
  let s := t / 20
  { a := rotl v.a 5 + fSha1 s v.b v.c v.d + v.e + kSha1 s + wt
    b := v.a
    c := rotl v.b 30
    d := v.c
    e := v.d }

/-- The rounds from round `t` on, one per schedule word (R113). -/
def sha1Rounds (t : Nat) : List Word32 → Words5 → Words5
  | [], v => v
  | wt :: ws, v => sha1Rounds (t + 1) ws (sha1Round t wt v)

/-- `ce_sha1` (R113): the working variables added into the incoming state. -/
def ceSha1 (h : Words5) (blk : List Byte) : Words5 :=
  let v := sha1Rounds 0 (mseSha1 blk) h
  { a := h.a + v.a, b := h.b + v.b, c := h.c + v.c, d := h.d + v.d, e := h.e + v.e }

end Sys2Proof.Machine
end

