-- ==== Sys2Proof/Machine/Ripemd160.lean ====
section
/-! DEFINITION. The ripemd160_compression_engine, spec/45_ripemd160.md: constants (R141), mixing functions (R142), word-selection tables (R143),
rotate-amount tables (R144), compression function (R145). It shares with Sha1.lean only the type of a five-word state. -/

namespace Sys2Proof.Machine

/-- `IV_RMD160` (R141). -/
def ivRmd160 : Words5 := ⟨0x67452301, 0xefcdab89, 0x98badcfe, 0x10325476, 0xc3d2e1f0⟩

/-- `KL[s]`, the left line's constant of stage `s` (R141). -/
def klRmd160 : Nat → Word32
  | 0 => 0x00000000
  | 1 => 0x5a827999
  | 2 => 0x6ed9eba1
  | 3 => 0x8f1bbcdc
  | _ => 0xa953fd4e

/-- `KR[s]`, the right line's constant of stage `s` (R141). -/
def krRmd160 : Nat → Word32
  | 0 => 0x50a28be6
  | 1 => 0x5c4dd124
  | 2 => 0x6d703ef3
  | 3 => 0x7a6d76e9
  | _ => 0x00000000

/-- The mixing functions F0 to F4 (R142). -/
def fRmd160 (s : Nat) (x y z : Word32) : Word32 :=
  match s with
  | 0 => x ^^^ y ^^^ z
  | 1 => (x &&& y) ||| (~~~x &&& z)
  | 2 => (x ||| ~~~y) ^^^ z
  | 3 => (x &&& z) ||| (y &&& ~~~z)
  | _ => x ^^^ (y ||| ~~~z)

/-- `RL[0..79]` (R143). -/
def rlRmd160 : List Nat :=
  [0, 1, 2, 3, 4, 5, 6, 7, 8, 9, 10, 11, 12, 13, 14, 15] ++
  [7, 4, 13, 1, 10, 6, 15, 3, 12, 0, 9, 5, 2, 14, 11, 8] ++
  [3, 10, 14, 4, 9, 15, 8, 1, 2, 7, 0, 6, 13, 11, 5, 12] ++
  [1, 9, 11, 10, 0, 8, 12, 4, 13, 3, 7, 15, 14, 5, 6, 2] ++
  [4, 0, 5, 9, 7, 12, 2, 10, 14, 1, 3, 8, 11, 6, 15, 13]

/-- `RR[0..79]` (R143). -/
def rrRmd160 : List Nat :=
  [5, 14, 7, 0, 9, 2, 11, 4, 13, 6, 15, 8, 1, 10, 3, 12] ++
  [6, 11, 3, 7, 0, 13, 5, 10, 14, 15, 8, 12, 4, 9, 1, 2] ++
  [15, 5, 1, 3, 7, 14, 6, 9, 11, 8, 12, 2, 10, 0, 4, 13] ++
  [8, 6, 4, 1, 3, 11, 15, 0, 5, 12, 2, 13, 9, 7, 10, 14] ++
  [12, 15, 10, 4, 1, 5, 8, 7, 6, 2, 13, 14, 0, 3, 9, 11]

/-- `SL[0..79]` (R144). -/
def slRmd160 : List Nat :=
  [11, 14, 15, 12, 5, 8, 7, 9, 11, 13, 14, 15, 6, 7, 9, 8] ++
  [7, 6, 8, 13, 11, 9, 7, 15, 7, 12, 15, 9, 11, 7, 13, 12] ++
  [11, 13, 6, 7, 14, 9, 13, 15, 14, 8, 13, 6, 5, 12, 7, 5] ++
  [11, 12, 14, 15, 14, 15, 9, 8, 9, 14, 5, 6, 8, 6, 5, 12] ++
  [9, 15, 5, 11, 6, 8, 13, 12, 5, 12, 13, 14, 11, 8, 5, 6]

/-- `SR[0..79]` (R144). -/
def srRmd160 : List Nat :=
  [8, 9, 9, 11, 13, 15, 15, 5, 7, 7, 8, 11, 14, 14, 12, 6] ++
  [9, 13, 15, 7, 12, 8, 9, 11, 7, 7, 12, 7, 6, 15, 13, 11] ++
  [9, 7, 15, 11, 8, 6, 6, 14, 12, 13, 5, 14, 13, 13, 7, 5] ++
  [15, 5, 8, 11, 14, 14, 6, 14, 6, 9, 12, 9, 12, 5, 15, 8] ++
  [8, 5, 12, 9, 12, 5, 14, 6, 8, 13, 6, 5, 15, 13, 11, 11]

/-- One round of a line (R145): mixing function `F_i`, selected word `wj`, additive constant `k`, rotate amount `s`. -/
def rmd160Round (i : Nat) (wj k : Word32) (s : Nat) (v : Words5) : Words5 :=
  { a := v.e
    b := rotl (v.a + fRmd160 i v.b v.c v.d + wj + k) s + v.e
    c := v.b
    d := rotl v.c 10
    e := v.d }

/-- The left line from round `j` on: F_s in stage s, words by RL, rotates by SL (R142, R145). -/
def rmd160Left (w : List Word32) (j : Nat) : List Nat → List Nat → Words5 → Words5
  | r :: rs, s :: ss, v => rmd160Left w (j + 1) rs ss (rmd160Round (j / 16) (w.getD r 0) (klRmd160 (j / 16)) s v)
  | _, _, v => v

/-- The right line from round `j` on: F_(4-s) in stage s, words by RR, rotates by SR (R142, R145). -/
def rmd160Right (w : List Word32) (j : Nat) : List Nat → List Nat → Words5 → Words5
  | r :: rs, s :: ss, v => rmd160Right w (j + 1) rs ss (rmd160Round (4 - j / 16) (w.getD r 0) (krRmd160 (j / 16)) s v)
  | _, _, v => v

/-- `ce_rmd160` (R145): the two lines run from the same state and are combined additively, the positions rotated by one. -/
def ceRmd160 (h : Words5) (blk : List Byte) : Words5 :=
  let w := mseRmd160 blk
  let l := rmd160Left w 0 rlRmd160 slRmd160 h
  let r := rmd160Right w 0 rrRmd160 srRmd160 h
  { a := h.b + l.c + r.d
    b := h.c + l.d + r.e
    c := h.d + l.e + r.a
    d := h.e + l.a + r.b
    e := h.a + l.b + r.c }

end Sys2Proof.Machine
end

