-- ==== Sys2Proof/Machine/Sha256.lean ====
section
/-! DEFINITION. The sha256_compression_engine, spec/43_sha256.md: constants (R121), round functions (R122), compression function (R123). -/

namespace Sys2Proof.Machine

/-- Eight words: the running state of SHA256 (width 32) and SHA512 (width 64) and the working variables (a, …, hh) of their rounds. -/
structure Words8 (n : Nat) where
  a : BitVec n
  b : BitVec n
  c : BitVec n
  d : BitVec n
  e : BitVec n
  f : BitVec n
  g : BitVec n
  h : BitVec n
deriving DecidableEq, Repr

/-- `IV_SHA256` (R121). -/
def ivSha256 : Words8 32 :=
  ⟨0x6a09e667, 0xbb67ae85, 0x3c6ef372, 0xa54ff53a,
   0x510e527f, 0x9b05688c, 0x1f83d9ab, 0x5be0cd19⟩

/-- `K_SHA256[0..63]` (R121), in reading order. -/
def kSha256 : List Word32 :=
  [0x428a2f98, 0x71374491, 0xb5c0fbcf, 0xe9b5dba5, 0x3956c25b, 0x59f111f1, 0x923f82a4, 0xab1c5ed5] ++
  [0xd807aa98, 0x12835b01, 0x243185be, 0x550c7dc3, 0x72be5d74, 0x80deb1fe, 0x9bdc06a7, 0xc19bf174] ++
  [0xe49b69c1, 0xefbe4786, 0x0fc19dc6, 0x240ca1cc, 0x2de92c6f, 0x4a7484aa, 0x5cb0a9dc, 0x76f988da] ++
  [0x983e5152, 0xa831c66d, 0xb00327c8, 0xbf597fc7, 0xc6e00bf3, 0xd5a79147, 0x06ca6351, 0x14292967] ++
  [0x27b70a85, 0x2e1b2138, 0x4d2c6dfc, 0x53380d13, 0x650a7354, 0x766a0abb, 0x81c2c92e, 0x92722c85] ++
  [0xa2bfe8a1, 0xa81a664b, 0xc24b8b70, 0xc76c51a3, 0xd192e819, 0xd6990624, 0xf40e3585, 0x106aa070] ++
  [0x19a4c116, 0x1e376c08, 0x2748774c, 0x34b0bcb5, 0x391c0cb3, 0x4ed8aa4a, 0x5b9cca4f, 0x682e6ff3] ++
  [0x748f82ee, 0x78a5636f, 0x84c87814, 0x8cc70208, 0x90befffa, 0xa4506ceb, 0xbef9a3f7, 0xc67178f2]

/-- `bsig0_256` (R122). -/
def bsig0_256 (x : Word32) : Word32 := rotr x 2 ^^^ rotr x 13 ^^^ rotr x 22

/-- `bsig1_256` (R122). -/
def bsig1_256 (x : Word32) : Word32 := rotr x 6 ^^^ rotr x 11 ^^^ rotr x 25

/-- One round, with its constant `kt` and its schedule word `wt` (R123). -/
def sha256Round (kt wt : Word32) (v : Words8 32) : Words8 32 :=
  let t1 := v.h + bsig1_256 v.e + ch v.e v.f v.g + kt + wt
  let t2 := bsig0_256 v.a + maj v.a v.b v.c
  { a := t1 + t2, b := v.a, c := v.b, d := v.c, e := v.d + t1, f := v.e, g := v.f, h := v.g }

/-- The rounds, one per constant and schedule word (R123). -/
def sha256Rounds : List Word32 → List Word32 → Words8 32 → Words8 32
  | kt :: ks, wt :: ws, v => sha256Rounds ks ws (sha256Round kt wt v)
  | _, _, v => v

/-- `ce_sha256` (R123): the working variables added into the incoming state. -/
def ceSha256 (h : Words8 32) (blk : List Byte) : Words8 32 :=
  let v := sha256Rounds kSha256 (mseSha256 blk) h
  { a := h.a + v.a, b := h.b + v.b, c := h.c + v.c, d := h.d + v.d
    e := h.e + v.e, f := h.f + v.f, g := h.g + v.g, h := h.h + v.h }

end Sys2Proof.Machine
end

