-- ==== Sys2Proof/Machine/Engine.lean ====
section
/-! DEFINITION. How the four engines use the running state bank H (R26 of spec/10_state.md): a 32-bit engine reads the low halves of its NW words and
writes each result word with its high half zero; the words it does not have keep their value. -/

namespace Sys2Proof.Machine

/-- The running state of a five-word 32-bit engine: `trunc_32(H[0..4])` (R26). -/
def readWords5 (h : Vector Word64 8) : Words5 :=
  ⟨trunc32 h[0], trunc32 h[1], trunc32 h[2], trunc32 h[3], trunc32 h[4]⟩

/-- `H[i] <- zext_64(v[i])` for i = 0..4; `H[5..7]` keep their value (R26). -/
def writeWords5 (v : Words5) (h : Vector Word64 8) : Vector Word64 8 :=
  #v[zext64 v.a, zext64 v.b, zext64 v.c, zext64 v.d, zext64 v.e, h[5], h[6], h[7]]

/-- The running state of SHA256: `trunc_32(H[0..7])` (R26). -/
def readWords8 (h : Vector Word64 8) : Words8 32 :=
  ⟨trunc32 h[0], trunc32 h[1], trunc32 h[2], trunc32 h[3], trunc32 h[4], trunc32 h[5], trunc32 h[6], trunc32 h[7]⟩

/-- `H[i] <- zext_64(v[i])` for i = 0..7 (R26). -/
def writeWords8 (v : Words8 32) : Vector Word64 8 :=
  #v[zext64 v.a, zext64 v.b, zext64 v.c, zext64 v.d, zext64 v.e, zext64 v.f, zext64 v.g, zext64 v.h]

/-- The running state of SHA512: all 64 bits of `H[0..7]` (R26). -/
def readWords8Wide (h : Vector Word64 8) : Words8 64 :=
  ⟨h[0], h[1], h[2], h[3], h[4], h[5], h[6], h[7]⟩

/-- `H[i] <- v[i]` for i = 0..7 (R26). -/
def writeWords8Wide (v : Words8 64) : Vector Word64 8 :=
  #v[v.a, v.b, v.c, v.d, v.e, v.f, v.g, v.h]

/-- The bank INIT loads: the initial values of the algorithm, zero in the words it does not have (R191 to R194). -/
def initialBank : Alg → Vector Word64 8
  | .sha1 => writeWords5 ivSha1 (.replicate 8 0)
  | .sha256 => writeWords8 ivSha256
  | .sha512 => writeWords8Wide ivSha512
  | .rmd160 => writeWords5 ivRmd160 (.replicate 8 0)

/-- One engine call on the bank: `ce_alg` of the words the algorithm reads, written back (R26, R113, R123, R133, R145). -/
def engine (alg : Alg) (h : Vector Word64 8) (blk : List Byte) : Vector Word64 8 :=
  match alg with
  | .sha1 => writeWords5 (ceSha1 (readWords5 h) blk) h
  | .sha256 => writeWords8 (ceSha256 (readWords8 h) blk)
  | .sha512 => writeWords8Wide (ceSha512 (readWords8Wide h) blk)
  | .rmd160 => writeWords5 (ceRmd160 (readWords5 h) blk) h

end Sys2Proof.Machine
end

