-- ==== Sys2Proof/Machine/Padding.lean ====
section
/-! DEFINITION. The padding_finalizer (R150 to R154) and the digest function (R158) of spec/46_padding_and_digest.md, on the bank H. -/

namespace Sys2Proof.Machine

/-- `length_bytes(alg, trunc_64(total *int 8))`: the field that ends the last block (R153). `total` is an integer, never reduced modulo 2^32. -/
def totalField (alg : Alg) (total : Nat) : List Byte := lengthField alg (BitVec.ofNat 64 (total * 8))

/-- `final_blocks(alg, tail, total)` (R154): `tail` holds the last `total mod BS` bytes of the message. One block, or two where the length field does
not fit after the marker (R152; spec/90_conflicts.md C1: the threshold is BS - LF). -/
def finalBlocks (alg : Alg) (tail : List Byte) (total : Nat) : List (List Byte) :=
  let bs := alg.blockBytes
  let lf := alg.lengthBytes
  let rem := total % bs
  if bs - lf ≤ rem then
    [tail ++ [0x80] ++ zeros (bs - rem - 1), zeros (bs - lf) ++ totalField alg total]
  else
    [tail ++ [0x80] ++ zeros (bs - lf - rem - 1) ++ totalField alg total]

/-- `finalize(alg, h, tail, total)` (R154): the engine over the final block or blocks, in order. -/
def finalize (alg : Alg) (h : Vector Word64 8) (tail : List Byte) (total : Nat) : Vector Word64 8 :=
  (finalBlocks alg tail total).foldl (engine alg) h

/-- The engine over the first `q` whole blocks of a byte sequence, in order (R158, step (a)). -/
def compressBlocks (alg : Alg) : Nat → List Byte → Vector Word64 8 → Vector Word64 8
  | 0, _, h => h
  | q + 1, m, h => compressBlocks alg q (m.drop alg.blockBytes) (engine alg h (m.take alg.blockBytes))

/-- The final running state of a message: whole blocks from the initial values, then the padded tail (R158, steps (a) to (e)). -/
def digestState (alg : Alg) (m : List Byte) : Vector Word64 8 :=
  let q := m.length / alg.blockBytes
  finalize alg (compressBlocks alg q m (initialBank alg)) (m.drop (q * alg.blockBytes)) m.length

/-- `digest_alg(m)` (R158): the final running state serialised in the algorithm's byte order. -/
def digest (alg : Alg) (m : List Byte) : List Byte := stateBytes alg (digestState alg m)

end Sys2Proof.Machine
end

