-- ==== Sys2Proof/Machine/Digest.lean ====
section
/-! DEFINITION. The DIGEST commands, R159 to R163 of spec/46_padding_and_digest.md. -/

namespace Sys2Proof.Machine

/-- What DIGEST writes at DST: the digest of the message bytes (R159). -/
def digestOutput (alg : Alg) (s : State) : List Byte := digest alg (readBytes s.mem s.src.toNat s.len.toNat)

/-- DIGEST: the message is read, its digest written at DST, everything zeroed (R159). Every read precedes the write (R60). -/
def digestEffect (alg : Alg) (s : State) : State :=
  zeroizeState { s with mem := writeBytes s.mem s.dst.toNat (digestOutput alg s) }

/-- DIGEST.SHA1 (R160). -/
def execDigestSha1 (s : State) : Host.Outcome State Fault Refusal := issueCommand .digest .sha1 (digestEffect .sha1) s
/-- DIGEST.SHA256 (R161). -/
def execDigestSha256 (s : State) : Host.Outcome State Fault Refusal := issueCommand .digest .sha256 (digestEffect .sha256) s
/-- DIGEST.SHA512 (R162). -/
def execDigestSha512 (s : State) : Host.Outcome State Fault Refusal := issueCommand .digest .sha512 (digestEffect .sha512) s
/-- DIGEST.RMD160 (R163). -/
def execDigestRmd160 (s : State) : Host.Outcome State Fault Refusal := issueCommand .digest .rmd160 (digestEffect .rmd160) s

end Sys2Proof.Machine
end

