-- ==== Sys2Proof/Machine/Hmac.lean ====
section
/-! DEFINITION. The hmac_generic_wrapper (R171) and the HMAC commands (R173 to R177), spec/47_hmac.md. -/

namespace Sys2Proof.Machine

/-- `K0` (R171): the key, or its digest where it is longer than BS bytes, zero-padded to exactly BS bytes. -/
def macKeyBlock (alg : Alg) (key : List Byte) : List Byte :=
  let k := if alg.blockBytes < key.length then digest alg key else key
  k ++ zeros (alg.blockBytes - k.length)

/-- `mac_alg(key, data)` (R171). -/
def macBytes (alg : Alg) (key data : List Byte) : List Byte :=
  let k0 := macKeyBlock alg key
  let inner := digest alg (xorBytes k0 (rep 0x36 alg.blockBytes) ++ data)
  digest alg (xorBytes k0 (rep 0x5c alg.blockBytes) ++ inner)

/-- What HMAC writes at DST: the code of the data bytes under the key bytes (R173). -/
def hmacOutput (alg : Alg) (s : State) : List Byte :=
  macBytes alg (readBytes s.mem s.key.toNat s.keylen.toNat) (readBytes s.mem s.src.toNat s.len.toNat)

/-- HMAC: key and data are read, the code written at DST, everything zeroed (R173). Every read precedes the write (R60). -/
def hmacEffect (alg : Alg) (s : State) : State :=
  zeroizeState { s with mem := writeBytes s.mem s.dst.toNat (hmacOutput alg s) }

/-- HMAC.SHA1 (R174). -/
def execHmacSha1 (s : State) : Host.Outcome State Fault Refusal := issueCommand .hmac .sha1 (hmacEffect .sha1) s
/-- HMAC.SHA256 (R175). -/
def execHmacSha256 (s : State) : Host.Outcome State Fault Refusal := issueCommand .hmac .sha256 (hmacEffect .sha256) s
/-- HMAC.SHA512 (R176). -/
def execHmacSha512 (s : State) : Host.Outcome State Fault Refusal := issueCommand .hmac .sha512 (hmacEffect .sha512) s
/-- HMAC.RMD160 (R177). -/
def execHmacRmd160 (s : State) : Host.Outcome State Fault Refusal := issueCommand .hmac .rmd160 (hmacEffect .rmd160) s

end Sys2Proof.Machine
end

