-- ==== Sys2Proof/Machine/Pbkdf.lean ====
section
/-! DEFINITION. The pbkdf_iterator (R181, R182) and the PBKDF commands (R183 to R187), spec/48_pbkdf.md. -/

namespace Sys2Proof.Machine

/-- `n` more iterations from the output `u` and the accumulator `t`: `U = mac_alg(pw, U)`, `T = T xor U` (R182). -/
def kdfIterate (alg : Alg) (pw : List Byte) : Nat → List Byte → List Byte → List Byte
  | 0, _, t => t
  | n + 1, u, t =>
    let u' := macBytes alg pw u
    kdfIterate alg pw n u' (xorBytes t u')

/-- The first output `U1 = mac_alg(pw, salt || st_be32(i))` of block `i`, counted from 1; the index is big-endian for every algorithm (R181, R182). -/
def kdfFirst (alg : Alg) (pw salt : List Byte) (i : Nat) : List Byte := macBytes alg pw (salt ++ stBe32 (BitVec.ofNat 32 i))

/-- The whole output block `i` (R182): `rounds - 1` iterations after U1. -/
def kdfBlock (alg : Alg) (pw salt : List Byte) (rounds i : Nat) : List Byte :=
  let u := kdfFirst alg pw salt i
  kdfIterate alg pw (rounds - 1) u u

/-- `kdf_alg(pw, salt, rounds, outlen)` (R182): the blocks in order, the last one truncated so that `outlen` bytes result. -/
def kdfBytes (alg : Alg) (pw salt : List Byte) (rounds outlen : Nat) : List Byte :=
  (List.range (ceilDiv outlen alg.digestBytes)).flatMap fun j =>
    (kdfBlock alg pw salt rounds (j + 1)).take (min alg.digestBytes (outlen - j * alg.digestBytes))

/-- What PBKDF writes at DST: OUTLEN bytes derived from password and salt (R183). -/
def pbkdfOutput (alg : Alg) (s : State) : List Byte :=
  kdfBytes alg (readBytes s.mem s.key.toNat s.keylen.toNat) (readBytes s.mem s.src.toNat s.len.toNat) s.rounds.toNat s.outlen.toNat

/-- PBKDF: password and salt are read, the output blocks written one after the other from DST on, everything zeroed (R183). The blocks fill the output
region in ascending order, so one MemWrite of all of them makes the same byte writes in the same order. -/
def pbkdfEffect (alg : Alg) (s : State) : State :=
  zeroizeState { s with mem := writeBytes s.mem s.dst.toNat (pbkdfOutput alg s) }

/-- PBKDF.SHA1 (R184). -/
def execPbkdfSha1 (s : State) : Host.Outcome State Fault Refusal := issueCommand .pbkdf .sha1 (pbkdfEffect .sha1) s
/-- PBKDF.SHA256 (R185). -/
def execPbkdfSha256 (s : State) : Host.Outcome State Fault Refusal := issueCommand .pbkdf .sha256 (pbkdfEffect .sha256) s
/-- PBKDF.SHA512 (R186). -/
def execPbkdfSha512 (s : State) : Host.Outcome State Fault Refusal := issueCommand .pbkdf .sha512 (pbkdfEffect .sha512) s
/-- PBKDF.RMD160 (R187). -/
def execPbkdfRmd160 (s : State) : Host.Outcome State Fault Refusal := issueCommand .pbkdf .rmd160 (pbkdfEffect .rmd160) s

end Sys2Proof.Machine
end

