-- ==== Sys2Proof/Machine/UnitCommands.lean ====
section
/-! DEFINITION. The unit-level commands INIT, COMPRESS, FINAL, STOREH and ZEROIZE, spec/49_unit_commands.md. -/

namespace Sys2Proof.Machine

/-- The bytes of BLK the algorithm reads: `BLK[0..BS-1]` (R28). -/
def bufferBlock (alg : Alg) (s : State) : List Byte := s.blk.toList.take alg.blockBytes

/-- INIT: the bank becomes the algorithm's initial values, zero above them (R191 to R194). -/
def initEffect (alg : Alg) (s : State) : State := { s with h := initialBank alg }

/-- COMPRESS: one engine call on H and BLK; the schedule scratch is zero when it ends (R195 to R198, R105). -/
def compressEffect (alg : Alg) (s : State) : State :=
  { s with h := engine alg s.h (bufferBlock alg s), w := .replicate 80 0 }

/-- The tail of the message FINAL pads: `BLK[0 .. (LEN mod BS) - 1]` (R199). -/
def finalTail (alg : Alg) (s : State) : List Byte := s.blk.toList.take (s.len.toNat % alg.blockBytes)

/-- FINAL: pad the tail held in BLK, append the bit-length of LEN bytes, compress; BLK becomes zero (R199). -/
def finalEffect (alg : Alg) (s : State) : State :=
  { s with h := finalize alg s.h (finalTail alg s) s.len.toNat, blk := .replicate 128 0, w := .replicate 80 0 }

/-- STOREH: the running state, serialised, to memory at DST (R205 to R208). -/
def storehEffect (alg : Alg) (s : State) : State :=
  { s with mem := writeBytes s.mem s.dst.toNat (stateBytes alg s.h) }

/-- INIT.SHA1 (R191). -/
def execInitSha1 (s : State) : Host.Outcome State Fault Refusal := issueCommand .init .sha1 (initEffect .sha1) s
/-- INIT.SHA256 (R192). -/
def execInitSha256 (s : State) : Host.Outcome State Fault Refusal := issueCommand .init .sha256 (initEffect .sha256) s
/-- INIT.SHA512 (R193). -/
def execInitSha512 (s : State) : Host.Outcome State Fault Refusal := issueCommand .init .sha512 (initEffect .sha512) s
/-- INIT.RMD160 (R194). -/
def execInitRmd160 (s : State) : Host.Outcome State Fault Refusal := issueCommand .init .rmd160 (initEffect .rmd160) s

/-- COMPRESS.SHA1 (R195). -/
def execCompressSha1 (s : State) : Host.Outcome State Fault Refusal := issueCommand .compress .sha1 (compressEffect .sha1) s
/-- COMPRESS.SHA256 (R196). -/
def execCompressSha256 (s : State) : Host.Outcome State Fault Refusal := issueCommand .compress .sha256 (compressEffect .sha256) s
/-- COMPRESS.SHA512 (R197). -/
def execCompressSha512 (s : State) : Host.Outcome State Fault Refusal := issueCommand .compress .sha512 (compressEffect .sha512) s
/-- COMPRESS.RMD160 (R198). -/
def execCompressRmd160 (s : State) : Host.Outcome State Fault Refusal := issueCommand .compress .rmd160 (compressEffect .rmd160) s

/-- FINAL.SHA1 (R200). -/
def execFinalSha1 (s : State) : Host.Outcome State Fault Refusal := issueCommand .final .sha1 (finalEffect .sha1) s
/-- FINAL.SHA256 (R201). -/
def execFinalSha256 (s : State) : Host.Outcome State Fault Refusal := issueCommand .final .sha256 (finalEffect .sha256) s
/-- FINAL.SHA512 (R202). -/
def execFinalSha512 (s : State) : Host.Outcome State Fault Refusal := issueCommand .final .sha512 (finalEffect .sha512) s
/-- FINAL.RMD160 (R203). -/
def execFinalRmd160 (s : State) : Host.Outcome State Fault Refusal := issueCommand .final .rmd160 (finalEffect .rmd160) s

/-- STOREH.SHA1 (R205). -/
def execStorehSha1 (s : State) : Host.Outcome State Fault Refusal := issueCommand .storeh .sha1 (storehEffect .sha1) s
/-- STOREH.SHA256 (R206). -/
def execStorehSha256 (s : State) : Host.Outcome State Fault Refusal := issueCommand .storeh .sha256 (storehEffect .sha256) s
/-- STOREH.SHA512 (R207). -/
def execStorehSha512 (s : State) : Host.Outcome State Fault Refusal := issueCommand .storeh .sha512 (storehEffect .sha512) s
/-- STOREH.RMD160 (R208). -/
def execStorehRmd160 (s : State) : Host.Outcome State Fault Refusal := issueCommand .storeh .rmd160 (storehEffect .rmd160) s

/-- ZEROIZE (R209): `zeroize()` is the whole action. -/
def execZeroize (s : State) : Host.Outcome State Fault Refusal := issueCommand .zeroize .sha1 zeroizeState s

end Sys2Proof.Machine
end

