-- ==== Sys2Proof/Machine/Dispatch.lean ====
section
/-! DEFINITION. The meaning of every command, one arm per row of spec/opcode_table.json. -/

namespace Sys2Proof.Machine

/-- The issue of the command `i` in the state `s` (R213): its meaning. -/
def exec (i : Instr) (s : State) : Host.Outcome State Fault Refusal :=
  match i with
  | .initSha1 => Sys2Proof.Machine.execInitSha1 s
  | .initSha256 => Sys2Proof.Machine.execInitSha256 s
  | .initSha512 => Sys2Proof.Machine.execInitSha512 s
  | .initRmd160 => Sys2Proof.Machine.execInitRmd160 s
  | .compressSha1 => Sys2Proof.Machine.execCompressSha1 s
  | .compressSha256 => Sys2Proof.Machine.execCompressSha256 s
  | .compressSha512 => Sys2Proof.Machine.execCompressSha512 s
  | .compressRmd160 => Sys2Proof.Machine.execCompressRmd160 s
  | .finalSha1 => Sys2Proof.Machine.execFinalSha1 s
  | .finalSha256 => Sys2Proof.Machine.execFinalSha256 s
  | .finalSha512 => Sys2Proof.Machine.execFinalSha512 s
  | .finalRmd160 => Sys2Proof.Machine.execFinalRmd160 s
  | .storehSha1 => Sys2Proof.Machine.execStorehSha1 s
  | .storehSha256 => Sys2Proof.Machine.execStorehSha256 s
  | .storehSha512 => Sys2Proof.Machine.execStorehSha512 s
  | .storehRmd160 => Sys2Proof.Machine.execStorehRmd160 s
  | .digestSha1 => Sys2Proof.Machine.execDigestSha1 s
  | .digestSha256 => Sys2Proof.Machine.execDigestSha256 s
  | .digestSha512 => Sys2Proof.Machine.execDigestSha512 s
  | .digestRmd160 => Sys2Proof.Machine.execDigestRmd160 s
  | .hmacSha1 => Sys2Proof.Machine.execHmacSha1 s
  | .hmacSha256 => Sys2Proof.Machine.execHmacSha256 s
  | .hmacSha512 => Sys2Proof.Machine.execHmacSha512 s
  | .hmacRmd160 => Sys2Proof.Machine.execHmacRmd160 s
  | .pbkdfSha1 => Sys2Proof.Machine.execPbkdfSha1 s
  | .pbkdfSha256 => Sys2Proof.Machine.execPbkdfSha256 s
  | .pbkdfSha512 => Sys2Proof.Machine.execPbkdfSha512 s
  | .pbkdfRmd160 => Sys2Proof.Machine.execPbkdfRmd160 s
  | .zeroize => Sys2Proof.Machine.execZeroize s

end Sys2Proof.Machine
end

