-- ==== Sys2Proof/Machine/Unread.lean ====
section
/-! DEFINITION. Races on the regions of a command (R238): how memory takes a value that the spec leaves to a race, and the window that stays open after a
command has completed or a reset has abandoned it, until a RegRead of STATUS returns BUSY = 0 (D20 of spec/92_eei_decisions.md; log entry 15). -/

namespace Sys2Proof.Machine

/-- `m` with every byte of a region replaced by what `f` gives for its address. -/
def overlay (m : Memory) (r : Region) (f : Nat → Byte) : Memory :=
  writeBytes m r.1 ((List.range r.2).map fun k => f (r.1 + k))

/-- `t`, in which the command `i` issued in `s` has completed or was abandoned by a reset, with the command noted as unread; a rejected command and one without output bytes open no
window. The block's own later commands read what this one wrote (R62 (d)), so nothing else changes. -/
def noteUnread (i : Instr) (s t : State) : State :=
  if issueCheck i.op i.alg s = none ∧ 0 < (outputRegion i.op i.alg s).2 then
    { t with unread := { inputs := inputRegions i.op s, output := outputRegion i.op i.alg s, before := s.mem } :: t.unread }
  else t

/-- The byte another agent sees at `a`, `m` being the memory: in the output region of an unread command the old byte or a newer one (R238 (b)).
FREE VALUE `Config.takesNew`, one value of the counter for each command; log entry 15. -/
def seenByte (n : Nat) (m : Memory) : List Unread → Nat → Byte
  | [], a => readByte m a
  | e :: es, a => if inRegion e.output a && !Config.takesNew n a then readByte e.before a else seenByte (n + 1) m es a

/-- The byte memory holds after another agent stored `b` at `a`: in the output region of an unread command it is that agent's byte or the block's
(R238 (b)). FREE VALUE `Config.takesNew`; log entry 15. -/
def storedByte (s : State) (a : Nat) (b : Byte) : Byte :=
  if s.unread.any (fun e => inRegion e.output a) && Config.takesNew s.freeCount a then readByte s.mem a else b

/-- `storedByte` for the bytes of a store from `a` on. -/
def storedBytes (s : State) (a : Nat) : List Byte → List Byte
  | [] => []
  | b :: v => storedByte s a b :: storedBytes s (a + 1) v

/-- The output regions of the unread commands of which a store to the region `r` may have changed an input byte (R238 (a)): those with an input region
that meets `r` or the output region of an earlier one of them, whose bytes it read. -/
def racedOutputs (us : List Unread) (r : Region) : List Region :=
  match us with
  | [] => []
  | e :: es =>
    let qs := racedOutputs es r
    if (r :: qs).any (fun q => e.inputs.any (regionsOverlap q)) then e.output :: qs else qs

/-- The store of `bytes` from `addr` on by an agent outside the block. Nothing is known of the output bytes of a command whose input it raced (R238 (a));
while a command runs the model remembers where was stored to, so that its completion can settle a race. FREE VALUE `Config.racedByte`; log entries 6
and 15. With no unread command and none running it is the write of the bytes and nothing else. -/
def storeOutside (addr : Nat) (bytes : List Byte) (s : State) : State :=
  let r := (addr, bytes.length)
  let raced := racedOutputs s.unread r
  { s with
    mem := raced.foldr (fun q m => overlay m q (Config.racedByte s.freeCount)) (writeBytes s.mem addr (storedBytes s addr bytes))
    stores := if s.status.busy then r :: raced ++ s.stores else s.stores
    unread := s.unread.map fun e => { e with before := writeBytes e.before addr bytes }
    freeCount := if s.unread = [] then s.freeCount else s.freeCount + 1 }

end Sys2Proof.Machine
end

