-- ==== Sys2Proof/Machine/Busy.lean ====
section
/-! DEFINITION. The time between acceptance and completion, BUSY = 1 (R215, R244): how a command runs for the duration the platform gives it, what its
completion does, what a race on its regions does (R238), and what a reset in mid-command leaves (R232). -/

namespace Sys2Proof.Machine

/-- Another agent stored to a byte of an input region of the running command (R238 (a)). -/
def inputRaced (i : Instr) (s : State) : Bool :=
  s.stores.any fun r => (inputRegions i.op s).any (regionsOverlap r)

/-- Another agent stored to the byte at `a` while the command ran. -/
def storedMeanwhile (s : State) (a : Nat) : Bool := s.stores.any fun r => inRegion r a

/-- The byte at an address `a` of the output region when the command running in `s` completes, `t` being the state its meaning leaves.
With a racing store to an input region nothing is known of it (R238 (a)); where another agent stored to this byte it is that agent's byte or the
block's (R238 (b)); else it is the command's byte. FREE VALUES `Config.racedByte`, `Config.takesNew`; log entry 6. -/
def settledByte (i : Instr) (s t : State) (a : Nat) : Byte :=
  if inputRaced i s then Config.racedByte s.freeCount a
  else if storedMeanwhile s a && !Config.takesNew s.freeCount a then readByte s.mem a
  else readByte t.mem a

/-- The state when the command running in `s` has completed, `t` being the state its meaning leaves: races settled, the model's bookkeeping of the busy
period cleared. -/
def settle (i : Instr) (s t : State) : State :=
  if s.stores = [] then { t with remaining := 0 }
  else { t with
    mem := overlay t.mem (outputRegion i.op i.alg s) (settledByte i s t)
    remaining := 0, stores := [], freeCount := s.freeCount + 1 }

/-- The command `i` issued and performed now: its meaning, and the window of R238 that stays open until STATUS is read (R215; log entries 3 and 15). -/
def performNow (i : Instr) (s : State) : Host.Outcome State Fault Refusal :=
  match exec i s with
  | .next t => .next (noteUnread i s t)
  | .fault f => .fault f
  | .refused r => .refused r

/-- Completion of the running command, the one in CMD (R31, R215): its whole effect appears at this step. Its operands are those of the moment of
acceptance, since a register write while BUSY = 1 is dropped (R74, R34). -/
def completeRunning (s : State) : Host.Outcome State Fault Refusal :=
  match decode s.cmd with
  | none => .fault .busyWithoutCommand
  | some i =>
    match exec i s with
    | .next t => .next (noteUnread i s (settle i s t))
    | .fault f => .fault f
    | .refused r => .refused r

/-- What a byte of memory may be while a command runs, `old` being what it is without that command: in the command's output region `old` or the byte the
command writes, no one says which (R232, R238 (b)); elsewhere `old`. FREE VALUE `Config.takesNew`; log entries 6 and 7. -/
def busyByte (s : State) (old : Byte) (a : Nat) : Byte :=
  match decode s.cmd with
  | none => old
  | some i =>
    match exec i s with
    | .next t =>
      if inRegion (outputRegion i.op i.alg s) a && Config.takesNew s.freeCount a then settledByte i s t a else old
    | .fault _ => old
    | .refused _ => old

/-- The output region of the running command. -/
def runningOutput (s : State) : Region :=
  match decode s.cmd with
  | none => (0, 0)
  | some i => outputRegion i.op i.alg s

/-- The unread commands when a reset has come: those of before, and the command it abandons, whose regions stay the block's until a RegRead of STATUS
returns BUSY = 0 (R238 names no other end of that window; log entry 15). -/
def unreadAfterReset (s : State) : List Unread :=
  if s.status.busy then
    match decode s.cmd with
    | none => s.unread
    | some i => (noteUnread i s s).unread
  else s.unread

/-- Reset (R230): the reset state in the block; memory is not touched, but a command it abandons has made some, all or none of its byte writes (R232).
The accesses to come, the replies given, the platform's durations and what no read of STATUS has shown yet are no state of the block and stay. -/
def resetBlock (s : State) : State :=
  { State.reset with
    mem := if s.status.busy then overlay s.mem (runningOutput s) (fun a => busyByte s (readByte s.mem a) a) else s.mem
    inbox := s.inbox
    outbox := s.outbox
    latency := s.latency
    unread := unreadAfterReset s
    freeCount := if s.status.busy then s.freeCount + 1 else s.freeCount }

end Sys2Proof.Machine
end

