-- ==== Sys2Proof/Machine/Window.lean ====
section
/-! DEFINITION. The register window: which register an offset names (R35, R36), what a RegRead returns (R33) and what a RegWrite does to a register other
than CMD while the block is idle (R34), spec/10_state.md. -/

namespace Sys2Proof.Machine

/-- The registers of the window (R35). -/
inductive WindowReg where
  | cmd
  | status
  | operand (i : Fin 7)
  | reserved
  | hLo (i : Fin 8)
  | hHi (i : Fin 8)
  | blkw (j : Fin 32)
deriving DecidableEq, Repr

/-- The register at a byte offset; none where the offset is no multiple of 4 or does not belong to the block (R35, R36). -/
def windowReg (off : Nat) : Option WindowReg :=
  if off % 4 ≠ 0 ∨ 0x100 ≤ off then none
  else if off = 0x00 then some .cmd
  else if off = 0x04 then some .status
  else if off ≤ 0x20 then some (.operand (Fin.ofNat 7 ((off - 0x08) / 4)))
  else if off ≤ 0x3C then some .reserved
  else if off ≤ 0x7C then
    if off % 8 = 4 then some (.hHi (Fin.ofNat 8 ((off - 0x40) / 8))) else some (.hLo (Fin.ofNat 8 ((off - 0x40) / 8)))
  else some (.blkw (Fin.ofNat 32 ((off - 0x80) / 4)))

/-- `BLKW[j]`: byte `BLK[4j+n]` is bits `8n+7 : 8n` (R28). -/
def blkWord (blk : Vector Byte 128) (j : Fin 32) : Word32 :=
  blk[4 * j.val + 3] ++ blk[4 * j.val + 2] ++ blk[4 * j.val + 1] ++ blk[4 * j.val]

/-- `BLK[4j+n] <- v[8n+7:8n]` for n = 0..3 (R28). -/
def setBlkWord (blk : Vector Byte 128) (j : Fin 32) (v : Word32) : Vector Byte 128 :=
  (((blk.set (4 * j.val) (lane v 0)).set (4 * j.val + 1) (lane v 1)).set (4 * j.val + 2) (lane v 2)).set (4 * j.val + 3) (lane v 3)

/-- `H[i][31:0]` (R27). -/
def lowHalf (v : Word64) : Word32 := v.extractLsb' 0 32

/-- `H[i][63:32]` (R27). -/
def highHalf (v : Word64) : Word32 := v.extractLsb' 32 32

/-- `RegRead` of a register (R33): STATUS at any time; anything else reads 0 while BUSY = 1. -/
def windowRead (r : WindowReg) (s : State) : Word32 :=
  if r = .status then statusWord s.status
  else if s.status.busy then 0
  else match r with
    | .cmd => s.cmd
    | .status => statusWord s.status
    | .operand i => s.x[i]
    | .reserved => 0
    | .hLo i => lowHalf s.h[i]
    | .hHi i => highHalf s.h[i]
    | .blkw j => blkWord s.blk j

/-- `RegWrite` of `v` to a register other than CMD while BUSY = 0 (R34); a write to CMD is the issue of a command (`issue`). -/
def windowWrite (r : WindowReg) (v : Word32) (s : State) : State :=
  match r with
  | .cmd => s
  | .status => { s with status := statusWritten v s.status }
  | .operand i => { s with x := s.x.set i v }
  | .reserved => s
  | .hLo i => { s with h := s.h.set i (highHalf s.h[i] ++ v) }
  | .hHi i => { s with h := s.h.set i (v ++ lowHalf s.h[i]) }
  | .blkw j => { s with blk := setBlkWord s.blk j v }

end Sys2Proof.Machine
end

