-- ==== Sys2Proof/Machine/Access.lean ====
section
/-! DEFINITION. One access of an agent outside the block: the issue of a command word (R213 to R215), register reads and writes (R33, R34), loads and
stores of the shared memory (R20, R238), and reset (R230). -/

namespace Sys2Proof.Machine

/-- Acceptance of a command the platform lets run for `d + 1` steps: the state with BUSY = 1 is kept (R214, R215). -/
def acceptFor (d : Nat) (w : Word32) (s : State) : State := { accept w s with remaining := d, stores := [] }

/-- `issue(w)` (R213): an illegal word is rejected; a command with duration 0 is checked, run and completed in this step; one with a longer duration is
checked now and completes later (R215: a model may do either; D28: the duration is the platform's). -/
def issue (w : Word32) (s : State) : Host.Outcome State Fault Refusal :=
  match decode w with
  | none => .next (reject .illCmd s)
  | some i =>
    let s' := { s with latency := s.latency.tail }
    match s.latency.headD 0 with
    | 0 => performNow i s'
    | d + 1 =>
      match issueCheck i.op i.alg s' with
      | some _ => exec i s'
      | none => .next (acceptFor d w s')

/-- `RegWrite(off, v)` (R34): dropped while BUSY = 1; a write to CMD issues a command; outside the window or unaligned it has no meaning (R36). -/
def regWrite (off : Nat) (v : Word32) (s : State) : Host.Outcome State Fault Refusal :=
  match windowReg off with
  | none => .refused .windowAccess
  | some r =>
    if s.status.busy then .next { s with status := statusDropped s.status }
    else if r = .cmd then issue v s
    else .next (windowWrite r v s)

/-- `RegRead(off)` (R33): the value goes to the host and no state of the block changes; a read of STATUS that returns BUSY = 0 shows the host that every
command so far has completed (R62 (c), R238); outside the window or unaligned it has no meaning (R36). -/
def regRead (off : Nat) (s : State) : Host.Outcome State Fault Refusal :=
  match windowReg off with
  | none => .refused .windowAccess
  | some r => .next { s with
    outbox := .word (windowRead r s) :: s.outbox
    unread := if r = .status ∧ s.status.busy = false then [] else s.unread }

/-- A store to memory by an agent outside the block (R20, R238). -/
def memStore (addr : Nat) (bytes : List Byte) (s : State) : Host.Outcome State Fault Refusal :=
  if regionWraps (addr, bytes.length) then .fault .absentAddress
  else .next (storeOutside addr bytes s)

/-- The byte at `a` that a load of an agent outside the block shows: what memory holds, but for the output regions of unread commands and of the running
one (R238 (b)). -/
def shownByte (s : State) (a : Nat) : Byte :=
  let old := seenByte (s.freeCount + 1) s.mem s.unread a
  if s.status.busy then busyByte s old a else old

/-- A load from memory by an agent outside the block (R20, R238); the free-value counter advances where a race may decide a byte. -/
def memLoad (addr n : Nat) (s : State) : Host.Outcome State Fault Refusal :=
  if regionWraps (addr, n) then .fault .absentAddress
  else if s.status.busy = false ∧ s.unread = [] then .next { s with outbox := .bytes (readBytes s.mem addr n) :: s.outbox }
  else .next { s with
    outbox := .bytes ((List.range n).map fun k => shownByte s (addr + k)) :: s.outbox
    freeCount := s.freeCount + 1 + s.unread.length }

/-- One access of an agent outside the block (R20, R230). -/
def access (a : HostAccess) (s : State) : Host.Outcome State Fault Refusal :=
  match a with
  | .regWrite off v => regWrite off v s
  | .regRead off => regRead off s
  | .regOtherWidth _ _ => .refused .windowAccess
  | .memStore addr bytes => memStore addr bytes s
  | .memLoad addr n => memLoad addr n s
  | .reset => .next (resetBlock s)

/-- The next access that has arrived, if any: an idle block does nothing until one comes (R234 (f)). -/
def nextAccess (s : State) : Host.Outcome State Fault Refusal :=
  match s.inbox with
  | [] => .next s
  | a :: rest => access a { s with inbox := rest }

/-- A command word as the next access, with the block idle and the word's duration 0, so that the very next step issues and runs it (log entry 4). -/
def placeWord (w : Word32) (s : State) : State :=
  { s with
    inbox := .regWrite 0x00 w :: s.inbox
    latency := 0 :: s.latency
    status := { s.status with busy := false } }

end Sys2Proof.Machine
end

