-- ==== Sys2Proof/Machine/Step.lean ====
section
/-! DEFINITION. One step of the machine. The block has no program counter and fetches nothing (R31, R65): commands come one at a time from the host's
writes to CMD, so a step takes the next access of the outside, or lets the running command go on and complete. -/

namespace Sys2Proof.Machine

/-- One step. While a command runs (BUSY = 1), one step of its duration passes, together with the next access if one has arrived, or, with no step left,
the command completes (R215); while the block is idle, the next access happens, if there is one (R234 (f)). -/
def step (s : State) : Host.Outcome State Fault Refusal :=
  if s.status.busy then
    match s.remaining with
    | 0 => completeRunning s
    | d + 1 => nextAccess { s with remaining := d }
  else nextAccess s

/-- `s` with the command word of the first `nbits` bits of `w` as the next access, the block idle: `step` issues and runs exactly it (log entry 4). -/
def State.withFetchWord (s : State) (nbits w : Nat) : State := placeWord (BitVec.ofNat 32 (w % 2 ^ nbits)) s

end Sys2Proof.Machine
end

