-- ==== Sys2Proof/Safety.lean ====
section
/-! DEFINITION. What a good state and a well-formed access are, in the terms the statements use. -/

namespace Sys2Proof.Machine

/-- The invariants of STATUS that R24 gives: at most one of BUSY, DONE, ERR; ECODE nonzero exactly when ERR; and ECODE 5 to 15 never (R211). -/
def Status.legal (st : Status) : Bool :=
  !(st.busy && st.done) && !(st.busy && st.err) && !(st.done && st.err) && (st.err == (st.ecode != 0)) && decide (st.ecode ≤ 4)

/-- The hidden scratch is zero (R29). -/
def State.scratchZero (s : State) : Bool :=
  s.w == .replicate 80 0 && s.k0 == .replicate 128 0 && s.ih == .replicate 64 0 && s.u == .replicate 64 0 && s.t == .replicate 64 0

/-- CMD holds 0 (no command accepted yet) or a legal command word (R23, R38). -/
def State.cmdLegal (s : State) : Bool := s.cmd == 0 || (decode s.cmd).isSome

/-- While BUSY = 1 the command in CMD is one that passed the checks of R213 with the operands the registers still hold (R31, R214). -/
def State.runningLegal (s : State) : Bool :=
  !s.status.busy || match decode s.cmd with
    | none => false
    | some i => issueCheck i.op i.alg s == none

/-- While idle, the model's bookkeeping of a busy period is empty. -/
def State.idleQuiet (s : State) : Bool := s.status.busy || (s.remaining == 0 && s.stores == [])

/-- The states the machine is meant to be in: every run from reset stays in them, provided each store named an address below 2^32. -/
structure State.Good (s : State) : Prop where
  statusLegal : s.status.legal = true
  scratchZero : s.scratchZero = true
  cmdLegal : s.cmdLegal = true
  runningLegal : s.runningLegal = true
  idleQuiet : s.idleQuiet = true
  memory : Memory.wf s.mem
  unreadLegal : ∀ e ∈ s.unread, Memory.wf e.before ∧ e.output.1 + e.output.2 ≤ Config.memorySize

/-- An access the spec gives a meaning: an aligned 32-bit one inside the window (R36), or one to addresses that exist (R50). -/
def HostAccess.wellFormed : HostAccess → Bool
  | .regWrite off _ | .regRead off => decide (off % 4 = 0) && decide (off < 0x100)
  | .regOtherWidth _ _ => false
  | .memStore addr bytes => decide (addr + bytes.length ≤ Config.memorySize)
  | .memLoad addr n => decide (addr + n ≤ Config.memorySize)
  | .reset => true

/-- A state with which the machine cannot stop: good, and every access still to come is well formed. -/
def State.Safe (s : State) : Prop := s.Good ∧ ∀ a ∈ s.inbox, a.wellFormed = true

end Sys2Proof.Machine
end

