-- ==== Sys2Proof/Certificates/Slice0/Obligations.lean ====
section
/-! DEFINITION. The statements about the model, each a rule of spec/ or a consequence of rules, for the provers. The helpers they are written with come
first, under Sys2Proof.Statement; "idle" is BUSY = 0. -/

namespace Sys2Proof.Statement

open Sys2Proof.Machine

/-- `s` after the command word `w` was accepted and has completed: CMD holds `w`; BUSY 0, DONE 1, ERR 0, ECODE 0; WDROP as it was (R214, R215). -/
def finished (w : Word32) (s : State) : State :=
  { s with cmd := w, status := { busy := false, done := true, err := false, ecode := 0, wdrop := s.status.wdrop } }

/-- `s` after a rejection with code number `c`: DONE 0, ERR 1, ECODE `c`; everything else as it was (R212). -/
def rejectedWith (c : BitVec 4) (s : State) : State :=
  { s with status := { busy := s.status.busy, done := false, err := true, ecode := c, wdrop := s.status.wdrop } }

/-- `s` with H, BLK and the hidden scratch zero (R30). -/
def cleared (s : State) : State :=
  { s with h := .replicate 8 0, blk := .replicate 128 0, w := .replicate 80 0, k0 := .replicate 128 0,
           ih := .replicate 64 0, u := .replicate 64 0, t := .replicate 64 0 }

/-- R76: one of its four conditions makes the word illegal. -/
def illegalWord (w : Word32) : Prop :=
  w.extractLsb' 6 26 ≠ 0 ∨ w.extractLsb' 0 4 = 0 ∨ 9 ≤ w.extractLsb' 0 4 ∨ (w.extractLsb' 0 4 = 8 ∧ w.extractLsb' 4 2 ≠ 0)

/-- The 64-byte block of the message "abc", big-endian length (R115). -/
def abcBlock : List Byte := [0x61, 0x62, 0x63, 0x80] ++ List.replicate 59 0 ++ [0x18]

/-- The 128-byte block of the message "abc" (R135). -/
def abcBlockLong : List Byte := [0x61, 0x62, 0x63, 0x80] ++ List.replicate 123 0 ++ [0x18]

/-- The 64-byte block of the message "abc", little-endian length (R147). -/
def abcBlockLittle : List Byte := [0x61, 0x62, 0x63, 0x80] ++ List.replicate 52 0 ++ [0x18] ++ List.replicate 7 0

/-- The whole padded message: message, marker, the fewest zero bytes that make the length a multiple of BS, length field (R155). -/
def paddedMessage (alg : Alg) (m : List Byte) : List Byte :=
  m ++ [0x80] ++ List.replicate ((2 * alg.blockBytes - 1 - alg.lengthBytes - m.length % alg.blockBytes) % alg.blockBytes) 0
    ++ lengthField alg (BitVec.ofNat 64 (m.length * 8))

/-- The blocks of `n` bytes a byte sequence consists of, in order. -/
def blocksOf (n : Nat) (m : List Byte) : List (List Byte) := (List.range (m.length / n)).map fun i => (m.drop (i * n)).take n

/-- `U_(k+1)` of output block `i` (R182): U_1 from salt and index, each later one from the one before. -/
def kdfOutput (alg : Alg) (pw salt : List Byte) (i : Nat) : Nat → List Byte
  | 0 => macBytes alg pw (salt ++ stBe32 (BitVec.ofNat 32 i))
  | k + 1 => macBytes alg pw (kdfOutput alg pw salt i k)

/-- `s` after host writes to the BLK window that put the bytes `b` at `BLK[0]`, `BLK[1]`, …; the bytes beyond keep their value (R28). -/
def loadBlock (b : List Byte) (s : State) : State := { s with blk := Vector.ofFn fun k => b.getD k.val s.blk[k] }

/-- Load the whole blocks of `m`, `bs` bytes each, one by one, and run the command `compress` after each (R190 (d)). -/
def feedBlocks (compress : Instr) (bs : Nat) : Nat → List Byte → State → Option State
  | 0, _, s => some s
  | q + 1, m, s =>
    match exec compress (loadBlock (m.take bs) s) with
    | .next t => feedBlocks compress bs q (m.drop bs) t
    | .fault _ => none
    | .refused _ => none

/-- Some region of the command runs past the top of the address space (R51, R213). -/
def someRegionWraps (i : Instr) (s : State) : Prop :=
  ((i.op = .digest ∨ i.op = .hmac ∨ i.op = .pbkdf) ∧ 2 ^ 32 < s.src.toNat + s.len.toNat) ∨
  ((i.op = .hmac ∨ i.op = .pbkdf) ∧ 2 ^ 32 < s.key.toNat + s.keylen.toNat) ∨
  ((i.op = .storeh ∨ i.op = .digest ∨ i.op = .hmac) ∧ 2 ^ 32 < s.dst.toNat + i.alg.digestBytes) ∨
  (i.op = .pbkdf ∧ 2 ^ 32 < s.dst.toNat + s.outlen.toNat)

/-- The PBKDF output region shares an address with the password or the salt region (R183). -/
def outputSharesAddress (s : State) : Prop :=
  ∃ a : Nat, s.dst.toNat ≤ a ∧ a < s.dst.toNat + s.outlen.toNat ∧
    ((s.key.toNat ≤ a ∧ a < s.key.toNat + s.keylen.toNat) ∨ (s.src.toNat ≤ a ∧ a < s.src.toNat + s.len.toNat))

/-- What a step adds to the meaning `t` of the command `i` issued in `s`, and a reset (with `t` = `s`) to what is unread: a command that passed its checks and
has output bytes is noted as unread (R238, log entry 15). -/
def noted (i : Instr) (s t : State) : State :=
  { t with unread :=
    if issueCheck i.op i.alg s = none ∧ 0 < (outputRegion i.op i.alg s).2 then
      { inputs := inputRegions i.op s, output := outputRegion i.op i.alg s, before := s.mem } :: t.unread
    else t.unread }

/-- R22's table: which command reads which operand register. -/
def readsOperand (op : Op) (k : Fin 7) : Bool :=
  match op with
  | .init | .compress | .zeroize => false
  | .final => k == 1
  | .storeh => k == 2
  | .digest => k == 0 || k == 1 || k == 2
  | .hmac => k == 0 || k == 1 || k == 2 || k == 3 || k == 4
  | .pbkdf => true

/-- The table of R75: the 29 command words and the command each is. -/
def tableWords : List (Word32 × Instr) :=
  [(0x01, .initSha1), (0x11, .initSha256), (0x21, .initSha512), (0x31, .initRmd160),
   (0x02, .compressSha1), (0x12, .compressSha256), (0x22, .compressSha512), (0x32, .compressRmd160),
   (0x03, .finalSha1), (0x13, .finalSha256), (0x23, .finalSha512), (0x33, .finalRmd160),
   (0x04, .storehSha1), (0x14, .storehSha256), (0x24, .storehSha512), (0x34, .storehRmd160),
   (0x05, .digestSha1), (0x15, .digestSha256), (0x25, .digestSha512), (0x35, .digestRmd160),
   (0x06, .hmacSha1), (0x16, .hmacSha256), (0x26, .hmacSha512), (0x36, .hmacRmd160),
   (0x07, .pbkdfSha1), (0x17, .pbkdfSha256), (0x27, .pbkdfSha512), (0x37, .pbkdfRmd160),
   (0x08, .zeroize)]

end Sys2Proof.Statement

open Sys2Proof Sys2Proof.Machine Sys2Proof.Statement

/-! ## Encoding -/

/-- R79: the decoder reads exactly the encoder's words, refuses exactly the words R76 calls illegal, and the encoder is `code(o) | code(a) << 4`. -/
def Obligations.DecodeInvertsEncode : Prop :=
  (∀ (w : Word32) (i : Instr), decode w = some i ↔ w = encode i) ∧
  (∀ w : Word32, decode w = none ↔ illegalWord w) ∧
  (∀ i : Instr, encode i = i.op.code.setWidth 32 ||| i.alg.code.setWidth 32 <<< 4) ∧
  decode 0x00000015 = some .digestSha256 ∧ decode 0x00000045 = none ∧ decode 0x00000018 = none

/-- R75: the 29 legal words and the command each is; every other value is illegal. -/
def Obligations.LegalWordsAreTheTable : Prop :=
  ∀ (w : Word32) (i : Instr), decode w = some i ↔ (w, i) ∈ tableWords

/-- Part 2.1 of spec/95_test_vectors.md: words written out from the fields of R71, and what they decode to. -/
def Obligations.SampleWordsDecode : Prop :=
  decode 0b00000000000000000000000000_00_0001 = some .initSha1 ∧
  decode 0b00000000000000000000000000_01_0010 = some .compressSha256 ∧
  decode 0b00000000000000000000000000_10_0011 = some .finalSha512 ∧
  decode 0b00000000000000000000000000_11_0100 = some .storehRmd160 ∧
  decode 0b00000000000000000000000000_01_0101 = some .digestSha256 ∧
  decode 0b00000000000000000000000000_10_0110 = some .hmacSha512 ∧
  decode 0b00000000000000000000000000_11_0111 = some .pbkdfRmd160 ∧
  decode 0b00000000000000000000000000_00_1000 = some .zeroize ∧
  decode 0b00000000000000000000000000_01_1000 = none ∧
  decode 0b10000000000000000000000000_00_0101 = none

/-- R76: a host's write of an illegal word to CMD while idle is rejected with E_ILLCMD: it is not stored in CMD, it starts nothing, only STATUS changes;
of the 64 values of bits 5:0, 35 are illegal. -/
def Obligations.IllegalWordIsRejected : Prop :=
  (∀ (s : State) (w : Word32) (rest : List HostAccess), s.status.busy = false → s.inbox = .regWrite 0x00 w :: rest → illegalWord w →
    step s = .next (rejectedWith 1 { s with inbox := rest })) ∧
  ((List.range 64).filter fun n => decode (BitVec.ofNat 32 n) == none).length = 35

/-! ## byteorder_converter -/

/-- R91, R92, R93, R97: which byte of a sequence is which byte of the word, with each rule's example. -/
def Obligations.ByteOrderConversions : Prop :=
  (∀ b0 b1 b2 b3 : Byte, ldBe32 [b0, b1, b2, b3] =
    b0.setWidth 32 <<< 24 ||| b1.setWidth 32 <<< 16 ||| b2.setWidth 32 <<< 8 ||| b3.setWidth 32) ∧
  (∀ b0 b1 b2 b3 : Byte, ldLe32 [b0, b1, b2, b3] =
    b3.setWidth 32 <<< 24 ||| b2.setWidth 32 <<< 16 ||| b1.setWidth 32 <<< 8 ||| b0.setWidth 32) ∧
  (∀ b0 b1 b2 b3 b4 b5 b6 b7 : Byte, ldBe64 [b0, b1, b2, b3, b4, b5, b6, b7] =
    b0.setWidth 64 <<< 56 ||| b1.setWidth 64 <<< 48 ||| b2.setWidth 64 <<< 40 ||| b3.setWidth 64 <<< 32 |||
    b4.setWidth 64 <<< 24 ||| b5.setWidth 64 <<< 16 ||| b6.setWidth 64 <<< 8 ||| b7.setWidth 64) ∧
  (∀ v : Word64, stLe64 v = [v.extractLsb' 0 8, v.extractLsb' 8 8, v.extractLsb' 16 8, v.extractLsb' 24 8,
    v.extractLsb' 32 8, v.extractLsb' 40 8, v.extractLsb' 48 8, v.extractLsb' 56 8]) ∧
  (∀ v : Word64, stLe64 v = stLe32 (v.extractLsb' 0 32) ++ stLe32 (v.extractLsb' 32 32)) ∧
  ldBe32 [0x61, 0x62, 0x63, 0x80] = 0x61626380 ∧ ldLe32 [0x61, 0x62, 0x63, 0x80] = 0x80636261 ∧
  ldBe64 [1, 2, 3, 4, 5, 6, 7, 8] = 0x0102030405060708 ∧ stLe64 0x18 = [0x18, 0, 0, 0, 0, 0, 0, 0]

/-- R94, R95, R96 (and R99 (a), (b)): the bytes of each store, that a store undoes a load and a load undoes a store, that the little-endian load is the
big-endian load of the reversed bytes, and each rule's example. -/
def Obligations.ByteOrderRoundTrips : Prop :=
  (∀ v : Word32, stBe32 v = [v.extractLsb' 24 8, v.extractLsb' 16 8, v.extractLsb' 8 8, v.extractLsb' 0 8]) ∧
  (∀ v : Word32, stLe32 v = [v.extractLsb' 0 8, v.extractLsb' 8 8, v.extractLsb' 16 8, v.extractLsb' 24 8]) ∧
  (∀ v : Word64, stBe64 v = [v.extractLsb' 56 8, v.extractLsb' 48 8, v.extractLsb' 40 8, v.extractLsb' 32 8,
    v.extractLsb' 24 8, v.extractLsb' 16 8, v.extractLsb' 8 8, v.extractLsb' 0 8]) ∧
  (∀ b : List Byte, b.length = 4 → stBe32 (ldBe32 b) = b ∧ stLe32 (ldLe32 b) = b ∧ ldLe32 b = ldBe32 b.reverse) ∧
  (∀ b : List Byte, b.length = 8 → stBe64 (ldBe64 b) = b) ∧
  (∀ v : Word32, ldBe32 (stBe32 v) = v ∧ ldLe32 (stLe32 v) = v) ∧
  (∀ v : Word64, ldBe64 (stBe64 v) = v) ∧
  stBe32 0x67452301 = [0x67, 0x45, 0x23, 0x01] ∧ stBe32 1 = [0, 0, 0, 1] ∧ stLe32 0x67452301 = [0x01, 0x23, 0x45, 0x67] ∧
  stBe64 0x18 = [0, 0, 0, 0, 0, 0, 0, 0x18] ∧ stBe64 0x6a09e667f3bcc908 = [0x6a, 0x09, 0xe6, 0x67, 0xf3, 0xbc, 0xc9, 0x08]

/-- R98: the words of a block, the length field and the serialised state, for each algorithm, with the rule's examples. -/
def Obligations.AlgorithmByteOrders : Prop :=
  (∀ (blk : List Byte) (i : Nat), i < 16 →
    (mseSha1 blk).getD i 0 = ldBe32 (blk.drop (4 * i)) ∧ (mseSha256 blk).getD i 0 = ldBe32 (blk.drop (4 * i)) ∧
    (mseSha512 blk).getD i 0 = ldBe64 (blk.drop (8 * i)) ∧ (mseRmd160 blk).getD i 0 = ldLe32 (blk.drop (4 * i))) ∧
  (∀ v : Word64, lengthField .sha1 v = stBe64 v ∧ lengthField .sha256 v = stBe64 v ∧
    lengthField .sha512 v = List.replicate 8 0 ++ stBe64 v ∧ lengthField .rmd160 v = stLe64 v) ∧
  (∀ h0 h1 h2 h3 h4 h5 h6 h7 : Word64,
    stateBytes .sha1 #v[h0, h1, h2, h3, h4, h5, h6, h7] =
      stBe32 (trunc32 h0) ++ stBe32 (trunc32 h1) ++ stBe32 (trunc32 h2) ++ stBe32 (trunc32 h3) ++ stBe32 (trunc32 h4) ∧
    stateBytes .sha256 #v[h0, h1, h2, h3, h4, h5, h6, h7] =
      stBe32 (trunc32 h0) ++ stBe32 (trunc32 h1) ++ stBe32 (trunc32 h2) ++ stBe32 (trunc32 h3) ++
      stBe32 (trunc32 h4) ++ stBe32 (trunc32 h5) ++ stBe32 (trunc32 h6) ++ stBe32 (trunc32 h7) ∧
    stateBytes .sha512 #v[h0, h1, h2, h3, h4, h5, h6, h7] =
      stBe64 h0 ++ stBe64 h1 ++ stBe64 h2 ++ stBe64 h3 ++ stBe64 h4 ++ stBe64 h5 ++ stBe64 h6 ++ stBe64 h7 ∧
    stateBytes .rmd160 #v[h0, h1, h2, h3, h4, h5, h6, h7] =
      stLe32 (trunc32 h0) ++ stLe32 (trunc32 h1) ++ stLe32 (trunc32 h2) ++ stLe32 (trunc32 h3) ++ stLe32 (trunc32 h4)) ∧
  stateBytes .sha1 #v[0xa9993e36, 0x4706816a, 0xba3e2571, 0x7850c26c, 0x9cd0d89d, 0, 0, 0] =
    [0xa9, 0x99, 0x3e, 0x36, 0x47, 0x06, 0x81, 0x6a, 0xba, 0x3e, 0x25, 0x71, 0x78, 0x50, 0xc2, 0x6c, 0x9c, 0xd0, 0xd8, 0x9d] ∧
  stateBytes .rmd160 #v[0xf708b28e, 0x7a985de0, 0x8e4a049b, 0x87b0c698, 0xfc0b5af1, 0, 0, 0] =
    [0x8e, 0xb2, 0x08, 0xf7, 0xe0, 0x5d, 0x98, 0x7a, 0x9b, 0x04, 0x4a, 0x8e, 0x98, 0xc6, 0xb0, 0x87, 0xf1, 0x5a, 0x0b, 0xfc] ∧
  lengthField .sha512 0x18 = List.replicate 15 0 ++ [0x18] ∧ lengthField .rmd160 0x1c0 = [0xc0, 0x01, 0, 0, 0, 0, 0, 0]

/-! ## message_schedule_expander and the engines -/

/-- R101: the 80 schedule words of SHA1, with the rule's corner cases and example. -/
def Obligations.Sha1ScheduleRecurrence : Prop :=
  (∀ blk : List Byte, (mseSha1 blk).length = 80 ∧
    (∀ t, t < 16 → (mseSha1 blk).getD t 0 = ldBe32 (blk.drop (4 * t))) ∧
    (∀ t, 16 ≤ t → t < 80 → (mseSha1 blk).getD t 0 =
      rotl ((mseSha1 blk).getD (t - 3) 0 ^^^ (mseSha1 blk).getD (t - 8) 0 ^^^ (mseSha1 blk).getD (t - 14) 0 ^^^ (mseSha1 blk).getD (t - 16) 0) 1)) ∧
  mseSha1 (List.replicate 64 0) = List.replicate 80 0 ∧
  (mseSha1 (List.replicate 64 0xff)).take 24 =
    List.replicate 16 0xffffffff ++ [0, 0, 0, 0xffffffff, 0xffffffff, 0xffffffff, 0, 0] ∧
  (mseSha1 abcBlock).getD 0 0 = 0x61626380 ∧ (mseSha1 abcBlock).getD 15 0 = 0x18 ∧ (mseSha1 abcBlock).getD 16 0 = 0xc2c4c700 ∧
  (mseSha1 abcBlock).getD 17 0 = 0 ∧ (mseSha1 abcBlock).getD 18 0 = 0x30 ∧ (mseSha1 abcBlock).getD 19 0 = 0x85898e01 ∧
  (mseSha1 abcBlock).getD 79 0 = 0x822e0879

/-- R102: the 64 schedule words of SHA256, with the rule's corner case and example. -/
def Obligations.Sha256ScheduleRecurrence : Prop :=
  (∀ blk : List Byte, (mseSha256 blk).length = 64 ∧
    (∀ t, t < 16 → (mseSha256 blk).getD t 0 = ldBe32 (blk.drop (4 * t))) ∧
    (∀ t, 16 ≤ t → t < 64 → (mseSha256 blk).getD t 0 =
      (let x := (mseSha256 blk).getD (t - 2) 0; rotr x 17 ^^^ rotr x 19 ^^^ x >>> 10) + (mseSha256 blk).getD (t - 7) 0 +
      (let x := (mseSha256 blk).getD (t - 15) 0; rotr x 7 ^^^ rotr x 18 ^^^ x >>> 3) + (mseSha256 blk).getD (t - 16) 0)) ∧
  mseSha256 (List.replicate 64 0) = List.replicate 64 0 ∧
  (mseSha256 abcBlock).getD 0 0 = 0x61626380 ∧ (mseSha256 abcBlock).getD 15 0 = 0x18 ∧ (mseSha256 abcBlock).getD 16 0 = 0x61626380 ∧
  (mseSha256 abcBlock).getD 17 0 = 0x000f0000 ∧ (mseSha256 abcBlock).getD 18 0 = 0x7da86405 ∧ (mseSha256 abcBlock).getD 19 0 = 0x600003c6 ∧
  (mseSha256 abcBlock).getD 63 0 = 0x12b1edeb

/-- R103: the 80 schedule words of SHA512, with the rule's corner case and example. -/
def Obligations.Sha512ScheduleRecurrence : Prop :=
  (∀ blk : List Byte, (mseSha512 blk).length = 80 ∧
    (∀ t, t < 16 → (mseSha512 blk).getD t 0 = ldBe64 (blk.drop (8 * t))) ∧
    (∀ t, 16 ≤ t → t < 80 → (mseSha512 blk).getD t 0 =
      (let x := (mseSha512 blk).getD (t - 2) 0; rotr x 19 ^^^ rotr x 61 ^^^ x >>> 6) + (mseSha512 blk).getD (t - 7) 0 +
      (let x := (mseSha512 blk).getD (t - 15) 0; rotr x 1 ^^^ rotr x 8 ^^^ x >>> 7) + (mseSha512 blk).getD (t - 16) 0)) ∧
  mseSha512 (List.replicate 128 0) = List.replicate 80 0 ∧
  (mseSha512 abcBlockLong).getD 0 0 = 0x6162638000000000 ∧ (mseSha512 abcBlockLong).getD 15 0 = 0x18 ∧
  (mseSha512 abcBlockLong).getD 16 0 = 0x6162638000000000 ∧ (mseSha512 abcBlockLong).getD 17 0 = 0x00030000000000c0 ∧
  (mseSha512 abcBlockLong).getD 18 0 = 0x0a9699a24c700003 ∧ (mseSha512 abcBlockLong).getD 19 0 = 0x00000c0060000603 ∧
  (mseSha512 abcBlockLong).getD 79 0 = 0x92aeeed1a7bcf7d2

/-- R104: the schedule of RMD160 is the 16 little-endian words of the block, with the rule's example. -/
def Obligations.Rmd160ScheduleIsTheBlock : Prop :=
  (∀ blk : List Byte, (mseRmd160 blk).length = 16 ∧ ∀ t, t < 16 → (mseRmd160 blk).getD t 0 = ldLe32 (blk.drop (4 * t))) ∧
  (mseRmd160 abcBlockLittle).getD 0 0 = 0x80636261 ∧ (mseRmd160 abcBlockLittle).getD 14 0 = 0x18 ∧ (mseRmd160 abcBlockLittle).getD 15 0 = 0

/-- R106 (c): the SHA1 expansion is linear over exclusive or. -/
def Obligations.Sha1ScheduleIsLinear : Prop :=
  ∀ (a b : List Byte) (t : Nat), a.length = 64 → b.length = 64 →
    (mseSha1 (xorBytes a b)).getD t 0 = (mseSha1 a).getD t 0 ^^^ (mseSha1 b).getD t 0

/-- R114 (e), (f), R124, R134, R146 (d), (e): the engines on the all-ones state and block, where every addition wraps, and on the zero block from the
initial values. -/
def Obligations.EngineCornerCases : Prop :=
  (let f : Word32 := 0xffffffff
   let ones := List.replicate 64 (0xff : Byte)
   ceSha1 ⟨f, f, f, f, f⟩ ones = ⟨0x3f48159b, 0x2dce51fa, 0x8a1e930a, 0x02083b68, 0xef70d6e8⟩ ∧
   ceSha256 ⟨f, f, f, f, f, f, f, f⟩ ones =
     ⟨0x0598127a, 0xaf11706e, 0x77401fff, 0xd730c549, 0x0b84c867, 0xa98c6ca3, 0xd7f3c0f9, 0x06a78b79⟩ ∧
   ceRmd160 ⟨f, f, f, f, f⟩ ones = ⟨0xf282655d, 0xd3828cf1, 0x4fe5e0c5, 0xa3892b3e, 0xd14f6fce⟩) ∧
  (let f : Word64 := 0xffffffffffffffff
   ceSha512 ⟨f, f, f, f, f, f, f, f⟩ (List.replicate 128 0xff) = ⟨0x9b0f121696e951ee, 0x41d0b467b741e768, 0x564f41ebb3b72884, 0xf805b40fcacb5bc1,
     0x3c379cffcf02a900, 0x9b17a37f809ac554, 0x79c9fd2e1c83b6ab, 0xe948d9e252c02c7a⟩) ∧
  ceSha1 ivSha1 (List.replicate 64 0) = ⟨0x92b404e5, 0x56588ced, 0x6c1acd4e, 0xbf053f68, 0x09f73a93⟩ ∧
  ceSha256 ivSha256 (List.replicate 64 0) =
    ⟨0xda5698be, 0x17b9b469, 0x62335799, 0x779fbeca, 0x8ce5d491, 0xc0d26243, 0xbafef9ea, 0x1837a9d8⟩ ∧
  ceSha512 ivSha512 (List.replicate 128 0) = ⟨0xcf7881d5774acbe8, 0x533362e0fbc78070, 0x0267639d87460eda, 0x3086cb40e85931b0,
    0x717dc95288a023a3, 0x96bab2c14ce0b5e0, 0x6fc4fe04eae33e0b, 0x91f4d80cbd668bee⟩ ∧
  ceRmd160 ivRmd160 (List.replicate 64 0) = ⟨0x187e9bc5, 0x248b9535, 0xd0d6ddcc, 0x987c4e30, 0xcb45101f⟩

/-- R195, R196, R198 (corner cases): bits 63:32 of H and BLK[64..127] have no effect on what COMPRESS of a 32-bit algorithm computes. -/
def Obligations.CompressIgnoresUnreadState : Prop :=
  ∀ s s' t t' : State, (∀ k : Fin 128, k.val < 64 → s.blk[k] = s'.blk[k]) →
    ((∀ j : Fin 8, j.val < 5 → trunc32 s.h[j] = trunc32 s'.h[j]) →
      (exec .compressSha1 s = .next t → exec .compressSha1 s' = .next t' → ∀ j : Fin 8, j.val < 5 → t.h[j] = t'.h[j]) ∧
      (exec .compressRmd160 s = .next t → exec .compressRmd160 s' = .next t' → ∀ j : Fin 8, j.val < 5 → t.h[j] = t'.h[j])) ∧
    ((∀ j : Fin 8, trunc32 s.h[j] = trunc32 s'.h[j]) →
      exec .compressSha256 s = .next t → exec .compressSha256 s' = .next t' → t.h = t'.h)

/-! ## Padding, digest, MAC, key derivation -/

/-- R150 to R154: the final blocks are tail, marker, zero fill and length field, in one block where they fit and in two where they do not. -/
def Obligations.FinalBlocksAreThePaddedTail : Prop :=
  ∀ (alg : Alg) (tail : List Byte) (total : Nat), tail.length = total % alg.blockBytes →
    (∀ b ∈ finalBlocks alg tail total, b.length = alg.blockBytes) ∧
    (finalBlocks alg tail total).length = (if tail.length < alg.blockBytes - alg.lengthBytes then 1 else 2) ∧
    ∃ z : Nat, z < alg.blockBytes ∧
      (finalBlocks alg tail total).flatten = tail ++ [0x80] ++ List.replicate z 0 ++ lengthField alg (BitVec.ofNat 64 (total * 8))

/-- R155, R158: the digest of a message is the engine run over the blocks of the whole padded message from the initial values, serialised. -/
def Obligations.DigestIsEngineOverPaddedMessage : Prop :=
  ∀ (alg : Alg) (m : List Byte), (paddedMessage alg m).length % alg.blockBytes = 0 ∧
    digest alg m = stateBytes alg ((blocksOf alg.blockBytes (paddedMessage alg m)).foldl (engine alg) (initialBank alg))

/-- R158, R171, R182: a digest and a code have HL bytes, a derived key has exactly the length asked for. -/
def Obligations.OutputLengths : Prop :=
  (∀ (alg : Alg) (m : List Byte), (digest alg m).length = alg.digestBytes) ∧
  (∀ (alg : Alg) (key data : List Byte), (macBytes alg key data).length = alg.digestBytes) ∧
  (∀ (alg : Alg) (pw salt : List Byte) (rounds outlen : Nat), (kdfBytes alg pw salt rounds outlen).length = outlen)

/-- R172 (a), (d): a key longer than BS gives the code of its digest, one of at most BS bytes that of itself followed by zero bytes up to BS. -/
def Obligations.MacKeyPreparation : Prop :=
  (∀ (alg : Alg) (key data : List Byte), alg.blockBytes < key.length → macBytes alg key data = macBytes alg (digest alg key) data) ∧
  (∀ (alg : Alg) (key data : List Byte) (n : Nat), key.length + n ≤ alg.blockBytes →
    macBytes alg (key ++ List.replicate n 0) data = macBytes alg key data)

/-- R182: T of one round is U_1, each further round exclusive-ors the next U into it, and the result is the first `outlen` bytes of the
`ceil_div(outlen, HL)` blocks one after the other. -/
def Obligations.KdfRoundsAccumulate : Prop :=
  (∀ (alg : Alg) (pw salt : List Byte) (i : Nat), kdfBlock alg pw salt 1 i = kdfOutput alg pw salt i 0 ∧
    ∀ r, 1 ≤ r → kdfBlock alg pw salt (r + 1) i = xorBytes (kdfBlock alg pw salt r i) (kdfOutput alg pw salt i r)) ∧
  (∀ (alg : Alg) (pw salt : List Byte) (rounds outlen : Nat), 1 ≤ rounds →
    kdfBytes alg pw salt rounds outlen =
      ((List.range ((outlen + alg.digestBytes - 1) / alg.digestBytes)).flatMap fun j => kdfBlock alg pw salt rounds (j + 1)).take outlen)

/-- R189 (b): a shorter output is the beginning of a longer one. -/
def Obligations.KdfShorterOutputBeginsLonger : Prop :=
  ∀ (alg : Alg) (pw salt : List Byte) (rounds a b : Nat), a ≤ b → kdfBytes alg pw salt rounds a = (kdfBytes alg pw salt rounds b).take a

/-- R190 (d): INIT, then COMPRESS on each whole block, FINAL on the tail with LEN the length, STOREH: the bytes stored are the digest of the message. -/
def Obligations.UnitSequenceComputesDigest : Prop :=
  ∀ (alg : Alg) (init compress final storeh : Instr) (m : List Byte) (s : State),
    init.op = .init → compress.op = .compress → final.op = .final → storeh.op = .storeh →
    init.alg = alg → compress.alg = alg → final.alg = alg → storeh.alg = alg →
    m.length < 2 ^ 32 → s.dst.toNat + alg.digestBytes ≤ 2 ^ 32 → Memory.wf s.mem →
    ∃ t1 t2 t3 t4 : State, exec init s = .next t1 ∧
      feedBlocks compress alg.blockBytes (m.length / alg.blockBytes) m t1 = some t2 ∧
      exec final { loadBlock (m.drop (m.length / alg.blockBytes * alg.blockBytes)) t2 with x := t2.x.set 1 (BitVec.ofNat 32 m.length) } = .next t3 ∧
      exec storeh t3 = .next t4 ∧ readBytes t4.mem s.dst.toNat alg.digestBytes = digest alg m

/-! ## The commands: results, completion and frames. Each equation names every field that changes; every other field of State is unchanged. -/

/-- R191 to R194: INIT.SHA1, INIT.SHA256, INIT.SHA512, INIT.RMD160 complete in every state and load the initial values. -/
def Obligations.InitLoadsInitialValues : Prop :=
  ∀ s : State,
    exec .initSha1 s = .next (finished 0x01 { s with h := #v[0x67452301, 0xefcdab89, 0x98badcfe, 0x10325476, 0xc3d2e1f0, 0, 0, 0] }) ∧
    exec .initSha256 s = .next (finished 0x11 { s with h := #v[0x6a09e667, 0xbb67ae85, 0x3c6ef372, 0xa54ff53a,
      0x510e527f, 0x9b05688c, 0x1f83d9ab, 0x5be0cd19] }) ∧
    exec .initSha512 s = .next (finished 0x21 { s with h := #v[0x6a09e667f3bcc908, 0xbb67ae8584caa73b, 0x3c6ef372fe94f82b, 0xa54ff53a5f1d36f1,
      0x510e527fade682d1, 0x9b05688c2b3e6c1f, 0x1f83d9abfb41bd6b, 0x5be0cd19137e2179] }) ∧
    exec .initRmd160 s = .next (finished 0x31 { s with h := #v[0x67452301, 0xefcdab89, 0x98badcfe, 0x10325476, 0xc3d2e1f0, 0, 0, 0] })

/-- R195 to R198: COMPRESS.SHA1, COMPRESS.SHA256, COMPRESS.SHA512, COMPRESS.RMD160 complete in every state; the engine's result from the words and block
bytes the algorithm reads goes into H, the words it does not have are kept, W is zero, BLK is kept. With the rules' values for a zero state and block,
and for the block of 0x61 bytes and the block of the message "abc" from the initial values. -/
def Obligations.CompressRunsTheEngine : Prop :=
  (∀ s : State,
    (let r := ceSha1 ⟨trunc32 s.h[0], trunc32 s.h[1], trunc32 s.h[2], trunc32 s.h[3], trunc32 s.h[4]⟩ (s.blk.toList.take 64)
     exec .compressSha1 s = .next (finished 0x02 { s with
      h := #v[zext64 r.a, zext64 r.b, zext64 r.c, zext64 r.d, zext64 r.e, s.h[5], s.h[6], s.h[7]], w := .replicate 80 0 })) ∧
    (let r := ceSha256 ⟨trunc32 s.h[0], trunc32 s.h[1], trunc32 s.h[2], trunc32 s.h[3],
        trunc32 s.h[4], trunc32 s.h[5], trunc32 s.h[6], trunc32 s.h[7]⟩ (s.blk.toList.take 64)
     exec .compressSha256 s = .next (finished 0x12 { s with
      h := #v[zext64 r.a, zext64 r.b, zext64 r.c, zext64 r.d, zext64 r.e, zext64 r.f, zext64 r.g, zext64 r.h], w := .replicate 80 0 })) ∧
    (let r := ceSha512 ⟨s.h[0], s.h[1], s.h[2], s.h[3], s.h[4], s.h[5], s.h[6], s.h[7]⟩ (s.blk.toList.take 128)
     exec .compressSha512 s = .next (finished 0x22 { s with
      h := #v[r.a, r.b, r.c, r.d, r.e, r.f, r.g, r.h], w := .replicate 80 0 })) ∧
    (let r := ceRmd160 ⟨trunc32 s.h[0], trunc32 s.h[1], trunc32 s.h[2], trunc32 s.h[3], trunc32 s.h[4]⟩ (s.blk.toList.take 64)
     exec .compressRmd160 s = .next (finished 0x32 { s with
      h := #v[zext64 r.a, zext64 r.b, zext64 r.c, zext64 r.d, zext64 r.e, s.h[5], s.h[6], s.h[7]], w := .replicate 80 0 }))) ∧
  ceSha1 ⟨0, 0, 0, 0, 0⟩ (List.replicate 64 0) = ⟨0x9e1547ed, 0x57ec91c2, 0x30fa8bc8, 0xc7785a54, 0xa7efa5e3⟩ ∧
  ceSha1 ivSha1 abcBlock = ⟨0xa9993e36, 0x4706816a, 0xba3e2571, 0x7850c26c, 0x9cd0d89d⟩ ∧
  ceSha1 ivSha1 (List.replicate 64 0x61) = ⟨0xda4968eb, 0x2e377c1f, 0x884e8f52, 0x83524beb, 0xe74ebdbd⟩ ∧
  ceSha256 ⟨0, 0, 0, 0, 0, 0, 0, 0⟩ (List.replicate 64 0) =
    ⟨0x7ca51614, 0x425c3ba8, 0xce54dd2f, 0xc2020ae7, 0xb6e574d1, 0x98136d0f, 0xae7e26cc, 0xbf0be7a6⟩ ∧
  ceSha256 ivSha256 abcBlock = ⟨0xba7816bf, 0x8f01cfea, 0x414140de, 0x5dae2223, 0xb00361a3, 0x96177a9c, 0xb410ff61, 0xf20015ad⟩ ∧
  ceSha256 ivSha256 (List.replicate 64 0x61) =
    ⟨0xdf5bb81c, 0xe81e0626, 0xfb45a894, 0x4fd40f31, 0xb25e6816, 0xd6d499c1, 0xab904929, 0x00635e66⟩ ∧
  ceSha512 ⟨0, 0, 0, 0, 0, 0, 0, 0⟩ (List.replicate 128 0) = ⟨0xad3a5da838ebf830, 0x5d7142ff85fcbedb, 0x7fa8bf86d6f7ca99, 0x1c6b15b039d70bbf,
    0x29f6515289923518, 0x6fd7101d5f2e8f3a, 0x1c358d2476531450, 0x568c0d99d756dc3c⟩ ∧
  ceSha512 ivSha512 abcBlockLong = ⟨0xddaf35a193617aba, 0xcc417349ae204131, 0x12e6fa4e89a97ea2, 0x0a9eeee64b55d39a,
    0x2192992a274fc1a8, 0x36ba3c23a3feebbd, 0x454d4423643ce80e, 0x2a9ac94fa54ca49f⟩ ∧
  ceSha512 ivSha512 (List.replicate 128 0x61) = ⟨0x03bf7c6e55c11b04, 0x0d48757f45285fdc, 0xed46689bfc9026c0, 0x281701a1424c80f5,
    0xca31738befe6afee, 0x30f5fe8d4e41e248, 0x9379d57c74895af4, 0x4b1e84ebc1bab8b0⟩ ∧
  ceRmd160 ⟨0, 0, 0, 0, 0⟩ (List.replicate 64 0) = ⟨0x6bb9fe69, 0x3d09c7c0, 0x48ed6a0e, 0x7d117c5d, 0xadc8e12d⟩ ∧
  ceRmd160 ivRmd160 abcBlockLittle = ⟨0xf708b28e, 0x7a985de0, 0x8e4a049b, 0x87b0c698, 0xfc0b5af1⟩ ∧
  ceRmd160 ivRmd160 (List.replicate 64 0x61) = ⟨0xd42339f0, 0xce5b9f6f, 0x2874a075, 0xdf67aaf1, 0xc6c1be1c⟩

/-- R199 to R203: FINAL.SHA1, FINAL.SHA256, FINAL.SHA512, FINAL.RMD160 complete in every state: the engine runs over the one or two final blocks of the
tail BLK[0 .. (LEN mod BS) - 1] and the total length LEN; BLK and W become zero; the words of H the algorithm does not have are kept. -/
def Obligations.FinalPadsAndCompresses : Prop :=
  ∀ s : State,
    exec .finalSha1 s = .next (finished 0x03 { s with
      blk := .replicate 128 0, w := .replicate 80 0
      h := (finalBlocks .sha1 (s.blk.toList.take (s.len.toNat % 64)) s.len.toNat).foldl (engine .sha1) s.h }) ∧
    exec .finalSha256 s = .next (finished 0x13 { s with
      blk := .replicate 128 0, w := .replicate 80 0
      h := (finalBlocks .sha256 (s.blk.toList.take (s.len.toNat % 64)) s.len.toNat).foldl (engine .sha256) s.h }) ∧
    exec .finalSha512 s = .next (finished 0x23 { s with
      blk := .replicate 128 0, w := .replicate 80 0
      h := (finalBlocks .sha512 (s.blk.toList.take (s.len.toNat % 128)) s.len.toNat).foldl (engine .sha512) s.h }) ∧
    exec .finalRmd160 s = .next (finished 0x33 { s with
      blk := .replicate 128 0, w := .replicate 80 0
      h := (finalBlocks .rmd160 (s.blk.toList.take (s.len.toNat % 64)) s.len.toNat).foldl (engine .rmd160) s.h }) ∧
    (∀ (alg : Alg) (tail : List Byte), (finalBlocks alg tail s.len.toNat).length =
      if s.len.toNat % alg.blockBytes < alg.blockBytes - alg.lengthBytes then 1 else 2) ∧
    (∀ (tail : List Byte) (j : Fin 8), 5 ≤ j.val →
      ((finalBlocks .sha1 tail s.len.toNat).foldl (engine .sha1) s.h)[j] = s.h[j] ∧
      ((finalBlocks .rmd160 tail s.len.toNat).foldl (engine .rmd160) s.h)[j] = s.h[j])

/-- R205 to R208: STOREH.SHA1, STOREH.SHA256, STOREH.SHA512, STOREH.RMD160 complete where the HL bytes at DST lie below 2^32 and write the serialised
state there; else they are rejected with E_ADDR. With the rules' worked values of the serialised state. -/
def Obligations.StorehWritesTheState : Prop :=
  (∀ (s : State) (i : Instr), i.op = .storeh → s.dst.toNat + i.alg.digestBytes ≤ 2 ^ 32 →
    exec i s = .next (finished (encode i) { s with mem := writeBytes s.mem s.dst.toNat (stateBytes i.alg s.h) })) ∧
  (∀ (s : State) (i : Instr), i.op = .storeh → 2 ^ 32 < s.dst.toNat + i.alg.digestBytes → exec i s = .next (rejectedWith 3 s)) ∧
  (Alg.sha1.digestBytes = 20 ∧ Alg.sha256.digestBytes = 32 ∧ Alg.sha512.digestBytes = 64 ∧ Alg.rmd160.digestBytes = 20) ∧
  (let h : Vector Word64 8 := #v[0xa9993e36, 0x4706816a, 0xba3e2571, 0x7850c26c, 0x9cd0d89d, 0, 0, 0]
   stateBytes .sha1 h = [0xa9, 0x99, 0x3e, 0x36, 0x47, 0x06, 0x81, 0x6a, 0xba, 0x3e, 0x25, 0x71, 0x78, 0x50, 0xc2, 0x6c, 0x9c, 0xd0, 0xd8, 0x9d]) ∧
  (let h : Vector Word64 8 := #v[0xba7816bf, 0x8f01cfea, 0x414140de, 0x5dae2223, 0xb00361a3, 0x96177a9c, 0xb410ff61, 0xf20015ad]
   stateBytes .sha256 h = [0xba, 0x78, 0x16, 0xbf, 0x8f, 0x01, 0xcf, 0xea, 0x41, 0x41, 0x40, 0xde, 0x5d, 0xae, 0x22, 0x23,
     0xb0, 0x03, 0x61, 0xa3, 0x96, 0x17, 0x7a, 0x9c, 0xb4, 0x10, 0xff, 0x61, 0xf2, 0x00, 0x15, 0xad]) ∧
  (let h : Vector Word64 8 := #v[0xddaf35a193617aba, 0xcc417349ae204131, 0x12e6fa4e89a97ea2, 0x0a9eeee64b55d39a,
     0x2192992a274fc1a8, 0x36ba3c23a3feebbd, 0x454d4423643ce80e, 0x2a9ac94fa54ca49f]
   stateBytes .sha512 h = [0xdd, 0xaf, 0x35, 0xa1, 0x93, 0x61, 0x7a, 0xba, 0xcc, 0x41, 0x73, 0x49, 0xae, 0x20, 0x41, 0x31,
     0x12, 0xe6, 0xfa, 0x4e, 0x89, 0xa9, 0x7e, 0xa2, 0x0a, 0x9e, 0xee, 0xe6, 0x4b, 0x55, 0xd3, 0x9a,
     0x21, 0x92, 0x99, 0x2a, 0x27, 0x4f, 0xc1, 0xa8, 0x36, 0xba, 0x3c, 0x23, 0xa3, 0xfe, 0xeb, 0xbd,
     0x45, 0x4d, 0x44, 0x23, 0x64, 0x3c, 0xe8, 0x0e, 0x2a, 0x9a, 0xc9, 0x4f, 0xa5, 0x4c, 0xa4, 0x9f]) ∧
  (let h : Vector Word64 8 := #v[0xf708b28e, 0x7a985de0, 0x8e4a049b, 0x87b0c698, 0xfc0b5af1, 0, 0, 0]
   stateBytes .rmd160 h = [0x8e, 0xb2, 0x08, 0xf7, 0xe0, 0x5d, 0x98, 0x7a, 0x9b, 0x04, 0x4a, 0x8e, 0x98, 0xc6, 0xb0, 0x87, 0xf1, 0x5a, 0x0b, 0xfc]) ∧
  (let h : Vector Word64 8 := Vector.ofFn fun i => 0x1011121314151617 + BitVec.ofNat 64 i.val * 0x0808080808080808
   stateBytes .sha1 h = [0x14, 0x15, 0x16, 0x17, 0x1c, 0x1d, 0x1e, 0x1f, 0x24, 0x25, 0x26, 0x27, 0x2c, 0x2d, 0x2e, 0x2f, 0x34, 0x35, 0x36, 0x37] ∧
   stateBytes .sha256 h = [0x14, 0x15, 0x16, 0x17, 0x1c, 0x1d, 0x1e, 0x1f, 0x24, 0x25, 0x26, 0x27, 0x2c, 0x2d, 0x2e, 0x2f,
     0x34, 0x35, 0x36, 0x37, 0x3c, 0x3d, 0x3e, 0x3f, 0x44, 0x45, 0x46, 0x47, 0x4c, 0x4d, 0x4e, 0x4f] ∧
   stateBytes .sha512 h = (List.range 64).map (fun k => BitVec.ofNat 8 (0x10 + k)) ∧
   stateBytes .rmd160 h = [0x17, 0x16, 0x15, 0x14, 0x1f, 0x1e, 0x1d, 0x1c, 0x27, 0x26, 0x25, 0x24, 0x2f, 0x2e, 0x2d, 0x2c, 0x37, 0x36, 0x35, 0x34])

/-- R159 to R163: DIGEST.SHA1, DIGEST.SHA256, DIGEST.SHA512, DIGEST.RMD160 complete where neither the message nor the HL bytes at DST run past 2^32:
the digest of the message as it was before the write goes to DST, H, BLK and the scratch are zero; else they are rejected with E_ADDR. -/
def Obligations.DigestWritesTheDigest : Prop :=
  (∀ (s : State) (i : Instr), i.op = .digest → s.src.toNat + s.len.toNat ≤ 2 ^ 32 → s.dst.toNat + i.alg.digestBytes ≤ 2 ^ 32 →
    exec i s = .next (finished (encode i) (cleared { s with
      mem := writeBytes s.mem s.dst.toNat (digest i.alg (readBytes s.mem s.src.toNat s.len.toNat)) }))) ∧
  (∀ (s : State) (i : Instr), i.op = .digest → (2 ^ 32 < s.src.toNat + s.len.toNat ∨ 2 ^ 32 < s.dst.toNat + i.alg.digestBytes) →
    exec i s = .next (rejectedWith 3 s))

/-- R173 to R177: HMAC.SHA1, HMAC.SHA256, HMAC.SHA512, HMAC.RMD160 complete where no region runs past 2^32: the code of the data under the key, both as
they were before the write, goes to DST, H, BLK and the scratch are zero; else they are rejected with E_ADDR. -/
def Obligations.HmacWritesTheCode : Prop :=
  (∀ (s : State) (i : Instr), i.op = .hmac → s.src.toNat + s.len.toNat ≤ 2 ^ 32 → s.key.toNat + s.keylen.toNat ≤ 2 ^ 32 →
    s.dst.toNat + i.alg.digestBytes ≤ 2 ^ 32 →
    exec i s = .next (finished (encode i) (cleared { s with
      mem := writeBytes s.mem s.dst.toNat
        (macBytes i.alg (readBytes s.mem s.key.toNat s.keylen.toNat) (readBytes s.mem s.src.toNat s.len.toNat)) }))) ∧
  (∀ (s : State) (i : Instr), i.op = .hmac →
    (2 ^ 32 < s.src.toNat + s.len.toNat ∨ 2 ^ 32 < s.key.toNat + s.keylen.toNat ∨ 2 ^ 32 < s.dst.toNat + i.alg.digestBytes) →
    exec i s = .next (rejectedWith 3 s))

/-- R171: K0 is the key, or its digest where it is longer than BS, zero-padded to BS bytes; the code is the digest of the outer pad and the inner digest. -/
def Obligations.MacIsTheKeyedDoubleHash : Prop :=
  ∀ (alg : Alg) (key data : List Byte),
    let k := if alg.blockBytes < key.length then digest alg key else key
    let k0 := k ++ List.replicate (alg.blockBytes - k.length) 0
    k0.length = alg.blockBytes ∧
    macBytes alg key data = digest alg (k0.map (· ^^^ 0x5c) ++ digest alg (k0.map (· ^^^ 0x36) ++ data))

/-- R183 to R188: PBKDF.SHA1, PBKDF.SHA256, PBKDF.SHA512, PBKDF.RMD160 complete where ROUNDS is not 0, no region runs past 2^32 and the output region
shares no address with password or salt: OUTLEN derived bytes go to DST, H, BLK and the scratch are zero; else they are rejected, with E_ROUNDS, E_ADDR
or E_OVERLAP, the first of these that applies. -/
def Obligations.PbkdfWritesTheDerivedBytes : Prop :=
  (∀ (s : State) (i : Instr), i.op = .pbkdf → s.rounds ≠ 0 → s.src.toNat + s.len.toNat ≤ 2 ^ 32 → s.key.toNat + s.keylen.toNat ≤ 2 ^ 32 →
    s.dst.toNat + s.outlen.toNat ≤ 2 ^ 32 → ¬ outputSharesAddress s →
    exec i s = .next (finished (encode i) (cleared { s with
      mem := writeBytes s.mem s.dst.toNat (kdfBytes i.alg (readBytes s.mem s.key.toNat s.keylen.toNat)
        (readBytes s.mem s.src.toNat s.len.toNat) s.rounds.toNat s.outlen.toNat) }))) ∧
  (∀ (s : State) (i : Instr), i.op = .pbkdf → s.rounds = 0 → exec i s = .next (rejectedWith 2 s)) ∧
  (∀ (s : State) (i : Instr), i.op = .pbkdf → s.rounds ≠ 0 →
    (2 ^ 32 < s.key.toNat + s.keylen.toNat ∨ 2 ^ 32 < s.src.toNat + s.len.toNat ∨ 2 ^ 32 < s.dst.toNat + s.outlen.toNat) →
    exec i s = .next (rejectedWith 3 s)) ∧
  (∀ (s : State) (i : Instr), i.op = .pbkdf → s.rounds ≠ 0 → s.src.toNat + s.len.toNat ≤ 2 ^ 32 → s.key.toNat + s.keylen.toNat ≤ 2 ^ 32 →
    s.dst.toNat + s.outlen.toNat ≤ 2 ^ 32 → outputSharesAddress s → exec i s = .next (rejectedWith 4 s))

/-- R209: ZEROIZE completes in every state; H, BLK and the hidden scratch are zero, nothing else but CMD and STATUS changes; the words 0x18, 0x28 and 0x38
are rejected with E_ILLCMD. -/
def Obligations.ZeroizeClearsTheBlock : Prop :=
  ∀ s : State, exec .zeroize s = .next (finished 0x08 (cleared s)) ∧ decode 0x08 = some .zeroize ∧
    issue 0x18 s = .next (rejectedWith 1 s) ∧ issue 0x28 s = .next (rejectedWith 1 s) ∧ issue 0x38 s = .next (rejectedWith 1 s)

/-- R213 (with R211, R212, R218): the checks at issue in their order, for every word and every command in every state: E_ILLCMD, then E_ROUNDS, then E_ADDR,
then E_OVERLAP, and the rejection changes STATUS only; otherwise the command is accepted and its meaning runs to completion. When the meaning of an issued
word is performed, StepRunsTheCommandWritten and AcceptanceStartsTheBusyPeriod say. -/
def Obligations.IssueChecksInOrder : Prop :=
  (∀ (w : Word32) (s : State), illegalWord w → issue w s = .next (rejectedWith 1 s)) ∧
  (∀ (i : Instr) (s : State),
    (i.op = .pbkdf ∧ s.rounds = 0 → exec i s = .next (rejectedWith 2 s)) ∧
    (¬ (i.op = .pbkdf ∧ s.rounds = 0) → someRegionWraps i s → exec i s = .next (rejectedWith 3 s)) ∧
    (¬ (i.op = .pbkdf ∧ s.rounds = 0) → ¬ someRegionWraps i s → i.op = .pbkdf ∧ outputSharesAddress s → exec i s = .next (rejectedWith 4 s)) ∧
    (¬ (i.op = .pbkdf ∧ s.rounds = 0) → ¬ someRegionWraps i s → ¬ (i.op = .pbkdf ∧ outputSharesAddress s) →
      ∃ t : State, exec i s = .next (finished (encode i) t)))

/-- R212, R214 (and R215): what a rejection, an acceptance and a completion change, and what STATUS reads after each. -/
def Obligations.StatusWordsOfIssue : Prop :=
  (∀ (c : ErrCode) (s : State), reject c s = rejectedWith (errValue c) s ∧ (s.status.busy = false →
    statusWord (reject c s).status = (0x4 : Word32) ||| (errValue c).setWidth 32 <<< 4 ||| (if s.status.wdrop then 0x100 else 0))) ∧
  (∀ s : State, s.status.busy = false → s.status.wdrop = false → [ErrCode.illCmd, .rounds, .addr, .overlap].map (fun c => statusWord (reject c s).status) =
    [0x14, 0x24, 0x34, 0x44]) ∧
  (∀ (w : Word32) (s : State),
    accept w s = { s with cmd := w, status := { busy := true, done := false, err := false, ecode := 0, wdrop := s.status.wdrop } } ∧
    statusWord (accept w s).status = (0x1 : Word32) ||| (if s.status.wdrop then 0x100 else 0)) ∧
  (∀ s : State, complete s = { s with status := { s.status with busy := false, done := true } }) ∧
  (∀ (w : Word32) (s : State), statusWord (finished w s).status = (0x2 : Word32) ||| (if s.status.wdrop then 0x100 else 0))

/-- R22, R212, R215 (whole machine): whatever a command does, it ends, no operand register changes, WDROP does not change, and nothing of what the host
and the platform are about to do changes. -/
def Obligations.CommandsKeepTheOperands : Prop :=
  ∀ (i : Instr) (s : State), ∃ t : State, exec i s = .next t ∧ t.x = s.x ∧ t.status.wdrop = s.status.wdrop ∧
    t.inbox = s.inbox ∧ t.outbox = s.outbox ∧ t.latency = s.latency ∧ t.remaining = s.remaining ∧ t.stores = s.stores ∧ t.unread = s.unread ∧ t.freeCount = s.freeCount ∧
    (t.status.err = true ∧ t = rejectedWith t.status.ecode s ∨ t.status.done = true ∧ t.status.busy = false ∧ t.cmd = encode i)

/-- R22: a register a command does not read has no effect on it. -/
def Obligations.UnreadOperandsHaveNoEffect : Prop :=
  ∀ (i : Instr) (s t : State) (k : Fin 7) (v : Word32), readsOperand i.op k = false → exec i s = .next t →
    exec i { s with x := s.x.set k v } = .next { t with x := t.x.set k v }

/-- R204: which command zeroes what, for every command that is not rejected. -/
def Obligations.WhichCommandZeroesWhat : Prop :=
  ∀ (i : Instr) (s t : State), exec i s = .next t → t.status.err = false →
    ((i.op = .init ∨ i.op = .compress ∨ i.op = .storeh) → t.blk = s.blk) ∧
    ((i.op = .init ∨ i.op = .compress ∨ i.op = .storeh ∨ i.op = .final) → t.k0 = s.k0 ∧ t.ih = s.ih ∧ t.u = s.u ∧ t.t = s.t) ∧
    ((i.op = .init ∨ i.op = .storeh) → t.w = s.w) ∧
    ((i.op = .compress ∨ i.op = .final) → t.w = .replicate 80 0) ∧
    (i.op = .final → t.blk = .replicate 128 0) ∧
    (i.op = .storeh → t.h = s.h) ∧
    ((i.op = .compress ∨ i.op = .final) → ∀ j : Fin 8, i.alg.stateWords ≤ j.val → t.h[j] = s.h[j]) ∧
    (i.op = .init → ∀ j : Fin 8, i.alg.stateWords ≤ j.val → t.h[j] = 0) ∧
    ((i.op = .digest ∨ i.op = .hmac ∨ i.op = .pbkdf ∨ i.op = .zeroize) → t.h = .replicate 8 0 ∧ t.blk = .replicate 128 0 ∧
      t.w = .replicate 80 0 ∧ t.k0 = .replicate 128 0 ∧ t.ih = .replicate 64 0 ∧ t.u = .replicate 64 0 ∧ t.t = .replicate 64 0)

/-! ## Memory -/

/-- R53, R54: byte `k` of what a MemWrite wrote is read at `addr + k`, every other address reads as before, and a MemRead returns the bytes in order. -/
def Obligations.MemWriteThenRead : Prop :=
  ∀ (m : Memory) (addr : Nat) (v : List Byte), Memory.wf m →
    (∀ k, (h : k < v.length) → readByte (writeBytes m addr v) (addr + k) = v[k]) ∧
    (∀ a, (a < addr ∨ addr + v.length ≤ a) → readByte (writeBytes m addr v) a = readByte m a) ∧
    readBytes (writeBytes m addr v) addr v.length = v ∧
    (∀ n, (readBytes m addr n).length = n ∧ ∀ k, k < n → (readBytes m addr n).getD k 0 = readByte m (addr + k))

/-- R20, R50, R238: the loads and stores of an agent outside the block. With no command running or unread (log entry 15) a store puts its bytes in memory and
changes nothing else, and a load gives the bytes of memory. While a command runs (none unread) a store puts its bytes in memory all the same and is recorded in
`stores`; with unread commands too it is recorded, and no earlier record is lost (log entry 6). An access that would need an address beyond the 2^32 that
exist faults (the fault is the model's choice, log entry 9). -/
def Obligations.HostMemoryAccesses : Prop :=
  ∀ (addr n : Nat) (v : List Byte) (s : State),
    (s.status.busy = false → s.unread = [] → addr + v.length ≤ 2 ^ 32 → access (.memStore addr v) s = .next { s with mem := writeBytes s.mem addr v }) ∧
    (s.status.busy = false → s.unread = [] → addr + n ≤ 2 ^ 32 →
      access (.memLoad addr n) s = .next { s with outbox := .bytes (readBytes s.mem addr n) :: s.outbox }) ∧
    (s.status.busy = true → s.unread = [] → addr + v.length ≤ 2 ^ 32 →
      access (.memStore addr v) s = .next { s with mem := writeBytes s.mem addr v, stores := (addr, v.length) :: s.stores }) ∧
    (s.status.busy = true → addr + v.length ≤ 2 ^ 32 →
      ∃ t : State, access (.memStore addr v) s = .next t ∧ (addr, v.length) ∈ t.stores ∧ ∀ r ∈ s.stores, r ∈ t.stores) ∧
    (2 ^ 32 < addr + v.length → access (.memStore addr v) s = .fault .absentAddress) ∧
    (2 ^ 32 < addr + n → access (.memLoad addr n) s = .fault .absentAddress)

/-- Two memories in canonical form that read alike are equal, and a MemWrite inside the address space keeps the form. The form is the model's own (log
entry 1). -/
def Obligations.MemoryFormIsCanonical : Prop :=
  (∀ m m' : Memory, Memory.wf m → Memory.wf m' → (∀ a, readByte m a = readByte m' a) → m = m') ∧
  (∀ (m : Memory) (addr : Nat) (v : List Byte), Memory.wf m → addr + v.length ≤ Config.memorySize → Memory.wf (writeBytes m addr v))

/-- Frame of the commands that store (STOREH, DIGEST, HMAC, PBKDF; R54, R159, R173, R183): every byte outside the output region reads as before, and
where the command was not rejected the bytes of the region are the command's output. -/
def Obligations.StoringCommandsFrame : Prop :=
  ∀ (i : Instr) (s t : State), (i.op = .storeh ∨ i.op = .digest ∨ i.op = .hmac ∨ i.op = .pbkdf) → Memory.wf s.mem → exec i s = .next t →
    (∀ a, inRegion (outputRegion i.op i.alg s) a = false → readByte t.mem a = readByte s.mem a) ∧
    (t.status.err = false → readBytes t.mem (outputRegion i.op i.alg s).1 (outputRegion i.op i.alg s).2 =
      match i.op with
      | .storeh => stateBytes i.alg s.h
      | .digest => digestOutput i.alg s
      | .hmac => hmacOutput i.alg s
      | .pbkdf => pbkdfOutput i.alg s
      | .init | .compress | .final | .zeroize => []) ∧
    (t.status.err = true → ∀ a, readByte t.mem a = readByte s.mem a)

/-- Frame of the commands that store nothing (INIT, COMPRESS, FINAL, ZEROIZE; R190 (b), R209): every byte of memory reads as before. -/
def Obligations.RegisterCommandsLeaveMemory : Prop :=
  ∀ (i : Instr) (s t : State), (i.op = .init ∨ i.op = .compress ∨ i.op = .final ∨ i.op = .zeroize) → exec i s = .next t →
    ∀ a, readByte t.mem a = readByte s.mem a

/-! ## The register window -/

/-- R33: what a RegRead returns, offset by offset; it changes nothing of the block or of memory (the value goes to the host). Beside R33: a read of STATUS that
returns BUSY = 0 ends the window of every command before it (R238, R62 (c)), which the model keeps in its own field `unread` (log entry 15: DEDUCED for the
window's end, DESIGN CHOICE for how it is held). -/
def Obligations.RegReadReturns : Prop :=
  ∀ (off : Nat) (s : State), off < 0x100 → off % 4 = 0 → regRead off s = .next { s with
    outbox := .word (
    if off = 0x04 then statusWord s.status
    else if s.status.busy = true then 0
    else if off = 0x00 then s.cmd
    else if off ≤ 0x20 then s.x.toList.getD ((off - 0x08) / 4) 0
    else if off ≤ 0x3C then 0
    else if off ≤ 0x7C then
      if off &&& 4 ≠ 0 then (s.h.toList.getD ((off - 0x40) / 8) 0).extractLsb' 32 32 else (s.h.toList.getD ((off - 0x40) / 8) 0).extractLsb' 0 32
    else
      let b := fun n => (s.blk.toList.getD (4 * ((off - 0x80) / 4) + n) 0).setWidth 32
      b 0 ||| b 1 <<< 8 ||| b 2 <<< 16 ||| b 3 <<< 24) :: s.outbox
    unread := if off = 0x04 ∧ s.status.busy = false then [] else s.unread }

/-- R34: what a RegWrite does, offset by offset: dropped while BUSY = 1; a write to CMD is the issue of a command; else the one register changes. -/
def Obligations.RegWriteEffects : Prop :=
  ∀ (off : Nat) (v : Word32) (s : State), off < 0x100 → off % 4 = 0 →
    (s.status.busy = true → regWrite off v s = .next { s with status := { s.status with wdrop := true } }) ∧
    (s.status.busy = false →
      (off = 0x00 → regWrite off v s = issue v s) ∧
      (off = 0x04 → regWrite off v s = .next { s with status := { s.status with wdrop := s.status.wdrop && !v.getLsbD 8 } }) ∧
      (0x08 ≤ off → off ≤ 0x20 → regWrite off v s = .next { s with x := s.x.setIfInBounds ((off - 0x08) / 4) v }) ∧
      (0x24 ≤ off → off ≤ 0x3C → regWrite off v s = .next s) ∧
      (0x40 ≤ off → off ≤ 0x7C → ∃ h' : Vector Word64 8, regWrite off v s = .next { s with h := h' } ∧
        ∀ j : Fin 8, h'[j] =
          if j.val = (off - 0x40) / 8 then
            (if off &&& 4 ≠ 0 then v ++ s.h[j].extractLsb' 0 32 else s.h[j].extractLsb' 32 32 ++ v)
          else s.h[j]) ∧
      (0x80 ≤ off → ∃ b' : Vector Byte 128, regWrite off v s = .next { s with blk := b' } ∧
        ∀ k : Fin 128, b'[k] = if k.val / 4 = (off - 0x80) / 4 then v.extractLsb' (8 * (k.val % 4)) 8 else s.blk[k]))

/-- R241: while idle, a read of a writable register after a write of it returns the written value. -/
def Obligations.WriteThenReadBack : Prop :=
  ∀ (off : Nat) (v : Word32) (s t : State), s.status.busy = false → off < 0x100 → off % 4 = 0 →
    ((0x08 ≤ off ∧ off ≤ 0x20) ∨ 0x40 ≤ off) → regWrite off v s = .next t → regRead off t = .next { t with outbox := .word v :: t.outbox }

/-- R24: the bits of STATUS, and that a write to it clears WDROP where bit 8 of the value is 1 and does nothing else. -/
def Obligations.StatusRegisterBits : Prop :=
  (∀ st : Status, (statusWord st).getLsbD 0 = st.busy ∧ (statusWord st).getLsbD 1 = st.done ∧ (statusWord st).getLsbD 2 = st.err ∧
    (statusWord st).getLsbD 3 = false ∧ (statusWord st).extractLsb' 4 4 = st.ecode ∧ (statusWord st).getLsbD 8 = st.wdrop ∧
    (statusWord st).extractLsb' 9 23 = 0) ∧
  (∀ (v : Word32) (s : State), s.status.busy = false →
    regWrite 0x04 v s = .next { s with status := { s.status with wdrop := if v.getLsbD 8 = true then false else s.status.wdrop } })

/-- R36: an access that is not an aligned 32-bit access inside the window is refused: a read or write at another offset, and an access of a width that is not
4 bytes at any offset. -/
def Obligations.OtherAccessesRefused : Prop :=
  ∀ (off : Nat) (v : Word32) (n : Nat) (s : State), (off % 4 ≠ 0 ∨ 0x100 ≤ off → regRead off s = .refused .windowAccess ∧ regWrite off v s = .refused .windowAccess) ∧
    (n ≠ 4 → access (.regOtherWidth off n) s = .refused .windowAccess)

/-- R234 (f), R243: an idle block to which nothing arrives stays as it is. -/
def Obligations.IdleBlockWaits : Prop := ∀ s : State, s.status.busy = false → s.inbox = [] → step s = .next s

/-! ## Steps, the busy period, reset -/

/-- A step runs the decoded command: the host's write of a legal word to CMD, block idle and duration 0 (R215), leads to the state that command's meaning
gives, the access and the duration taken off their lists, with the command noted as unread (R238); `withFetchWord` places exactly such a write. Accesses,
durations and unread commands as lists are the model's choice (log entries 2, 3, 4, 15). -/
def Obligations.StepRunsTheCommandWritten : Prop :=
  (∀ (s : State) (w : Word32) (i : Instr) (rest : List HostAccess), s.status.busy = false → s.inbox = .regWrite 0x00 w :: rest →
    s.latency.headD 0 = 0 → decode w = some i → ∃ t : State, exec i { s with inbox := rest, latency := s.latency.tail } = .next t ∧
      step s = .next (noted i s t)) ∧
  (∀ (s : State) (n : Nat) (i : Instr), n < 2 ^ 32 → decodeTableWord 32 n = some i → s.status.busy = false → ∃ t : State, exec i s = .next t ∧
    step (s.withFetchWord 32 n) = .next (noted i s t))

/-- R214: with a duration that is not 0, a command that passes its checks is accepted: CMD holds the word, STATUS says busy, everything else waits. Durations in steps are
the model's choice (log entry 3). -/
def Obligations.AcceptanceStartsTheBusyPeriod : Prop :=
  ∀ (s : State) (w : Word32) (i : Instr) (rest : List HostAccess) (d : Nat) (ds : List Nat), s.status.busy = false →
    s.inbox = .regWrite 0x00 w :: rest → s.latency = (d + 1) :: ds → decode w = some i → issueCheck i.op i.alg s = none →
    step s = .next { s with
      inbox := rest, latency := ds, cmd := w, remaining := d, stores := []
      status := { busy := true, done := false, err := false, ecode := 0, wdrop := s.status.wdrop } }

/-- R33, R34, R217, R241: while a command runs, a register read of anything but STATUS returns 0 and a register write is dropped and leaves WDROP set; the
command goes on. Durations in steps are the model's choice (log entry 3). -/
def Obligations.BusyWindow : Prop :=
  ∀ (s : State) (d off : Nat) (v : Word32) (rest : List HostAccess), s.status.busy = true → s.remaining = d + 1 → off < 0x100 → off % 4 = 0 →
    (s.inbox = .regWrite off v :: rest → step s = .next { s with remaining := d, inbox := rest, status := { s.status with wdrop := true } }) ∧
    (s.inbox = .regRead off :: rest → off ≠ 0x04 → step s = .next { s with remaining := d, inbox := rest, outbox := .word 0 :: s.outbox }) ∧
    (s.inbox = .regRead off :: rest → off = 0x04 → step s = .next { s with remaining := d, inbox := rest, outbox := .word (statusWord s.status) :: s.outbox })

/-- R215, R61: a command the platform lets run for `d` steps ends, when no other access comes meanwhile, in the very state it ends in when it is performed
in the step of the CMD write. Durations in steps are the model's choice (log entry 3). -/
def Obligations.DelayedCommandEqualsImmediate : Prop :=
  ∀ (s : State) (w : Word32) (i : Instr) (d : Nat), s.Good → s.status.busy = false → decode w = some i →
    core.run (d + 1) { s with inbox := [.regWrite 0x00 w], latency := [d] } = core.run 1 { s with inbox := [.regWrite 0x00 w], latency := [0] }

/-- R210, R243: an accepted command completes: from a good state in which it runs, with well-formed accesses and no reset to come, its remaining steps and
one more lead to a state with BUSY 0 and DONE 1. Durations in steps are the model's choice (log entry 3). -/
def Obligations.RunningCommandCompletes : Prop :=
  ∀ s : State, s.Safe → s.status.busy = true → HostAccess.reset ∉ s.inbox →
    ∃ t : State, core.run (s.remaining + 1) s = .next t ∧ t.status.busy = false ∧ t.status.done = true ∧ t.status.err = false ∧ t.cmd = s.cmd

/-- R238 with R54: the completion of a running command changes no byte outside its output region, and a byte of the region that no other agent stored to
is the command's own byte unless an input region was stored to. Which byte a raced address holds is a free value (log entry 6). -/
def Obligations.RacesStayInTheOutputRegion : Prop :=
  ∀ (s t u : State) (i : Instr), Memory.wf s.mem → decode s.cmd = some i → exec i s = .next u → completeRunning s = .next t →
    (∀ a, inRegion (outputRegion i.op i.alg s) a = false → readByte t.mem a = readByte s.mem a) ∧
    (∀ a, inputRaced i s = false → storedMeanwhile s a = false → readByte t.mem a = readByte u.mem a) ∧
    (∀ a, inputRaced i s = false → readByte t.mem a = readByte u.mem a ∨ readByte t.mem a = readByte s.mem a)

/-- R238 (b): what another agent's load shows while a command runs, whatever was stored meanwhile: outside the output regions of the running command and of
unread ones the bytes of memory; in an unread command's output region also that command's old byte; and where no other agent stored meanwhile, in the running
command's output region also the byte it writes, and nothing else. Which of them is a free value (log entries 6, 7 and 15). -/
def Obligations.EarlyReadShowsOldOrNew : Prop :=
  ∀ (s u : State) (i : Instr) (addr n : Nat), s.status.busy = true → decode s.cmd = some i → exec i s = .next u → addr + n ≤ 2 ^ 32 →
    ∃ bs : List Byte, memLoad addr n s =
        .next { s with outbox := .bytes bs :: s.outbox, freeCount := s.freeCount + 1 + s.unread.length } ∧ bs.length = n ∧
      (∀ k, k < n → inRegion (outputRegion i.op i.alg s) (addr + k) = false → (∀ e ∈ s.unread, inRegion e.output (addr + k) = false) →
        bs.getD k 0 = readByte s.mem (addr + k)) ∧
      (s.stores = [] → ∀ k, k < n → (bs.getD k 0 = readByte s.mem (addr + k) ∨
        (∃ e ∈ s.unread, inRegion e.output (addr + k) = true ∧ bs.getD k 0 = readByte e.before (addr + k)) ∨
        (inRegion (outputRegion i.op i.alg s) (addr + k) = true ∧ bs.getD k 0 = readByte u.mem (addr + k))))

/-- R230, R232: reset gives the reset state in the block and leaves memory alone, but for the output region of a command it abandons: no byte outside that
region changes, whatever other agents stored while the command ran; and where none stored (`stores` empty), each byte of the region is the old one or the one the
command would have written, which of them is a free value (log entry 7). What the outside is about to do or has not read yet stays (log entry 14), and the
abandoned command is added to what it has not read (log entry 15), so that its window of R238 stays open: RegionsStayTheBlocksUntilStatusIsRead speaks of it. -/
def Obligations.ResetAtAnyTime : Prop :=
  ∀ (s : State), Memory.wf s.mem → ∃ t : State, access .reset s = .next t ∧
    t = { State.reset with mem := t.mem, inbox := s.inbox, outbox := s.outbox, latency := s.latency, unread := t.unread, freeCount := t.freeCount } ∧
    (s.status.busy = false → t.mem = s.mem ∧ t.unread = s.unread) ∧
    (decode s.cmd = none → t.unread = s.unread) ∧
    (∀ i : Instr, s.status.busy = true → decode s.cmd = some i → t.unread = (noted i s s).unread) ∧
    (∀ i : Instr, s.status.busy = true → decode s.cmd = some i →
      ∀ a, inRegion (outputRegion i.op i.alg s) a = false → readByte t.mem a = readByte s.mem a) ∧
    (∀ (u : State) (i : Instr), s.status.busy = true → s.stores = [] → decode s.cmd = some i → exec i s = .next u →
      ∀ a, readByte t.mem a = readByte s.mem a ∨ (inRegion (outputRegion i.op i.alg s) a = true ∧ readByte t.mem a = readByte u.mem a))

/-- R38: every register and hidden array of the block is zero after reset, STATUS reads 0x00000000, and reset of an idle block does not change memory. -/
def Obligations.ResetValues : Prop :=
  State.reset.x = .replicate 7 0 ∧ State.reset.cmd = 0 ∧ statusWord State.reset.status = 0 ∧ State.reset.h = .replicate 8 0 ∧
  State.reset.blk = .replicate 128 0 ∧ State.reset.w = .replicate 80 0 ∧ State.reset.k0 = .replicate 128 0 ∧ State.reset.ih = .replicate 64 0 ∧
  State.reset.u = .replicate 64 0 ∧ State.reset.t = .replicate 64 0 ∧
  ∀ s : State, s.status.busy = false → ∃ t : State, access .reset s = .next t ∧ t.mem = s.mem ∧ t.x = State.reset.x ∧ t.cmd = State.reset.cmd ∧
    t.status = State.reset.status ∧ t.h = State.reset.h ∧ t.blk = State.reset.blk ∧ t.w = State.reset.w ∧ t.k0 = State.reset.k0 ∧
    t.ih = State.reset.ih ∧ t.u = State.reset.u ∧ t.t = State.reset.t

/-! ## Invariants -/

/-- The reset state is a good state. -/
def Obligations.ResetIsGood : Prop := State.reset.Good

/-- Every step keeps the invariants: STATUS legal (R24), hidden scratch zero (R29), CMD zero or a legal word (R23), a running command one that passed its
checks (R213), memory in canonical form, and so for what is kept of unread commands (log entry 15). That the scratch is zero while busy too is the model's choice (log entry 5). -/
def Obligations.StepKeepsGood : Prop := ∀ s t : State, s.Good → step s = .next t → t.Good

/-- From a good state with well-formed accesses to come, a step answers a next state, and one of the same kind: nothing faults, nothing is refused
(R210, R219: no error state, no lockup). -/
def Obligations.SafeStatesNeverStop : Prop := ∀ s : State, s.Safe → ∃ t : State, step s = .next t ∧ t.Safe

/-- R217: in a good state STATUS[7:0] is one of the seven reachable values and bits 31:9 are 0. -/
def Obligations.ReachableStatusValues : Prop :=
  ∀ s : State, s.Good → (statusWord s.status).extractLsb' 9 23 = 0 ∧
    (statusWord s.status).extractLsb' 0 8 ∈ ([0x00, 0x01, 0x02, 0x14, 0x24, 0x34, 0x44] : List (BitVec 8))

/-! ## The window of R238 after completion -/

/-- R238, D20: the regions of a command that has completed or was abandoned by a reset stay the block's until a read of STATUS returns BUSY = 0 (then `unread` is empty: RegReadReturns). Until then,
block idle: a load sees memory's bytes, or in an unread command's output region the old ones; a store changes no byte but those it stores to and output bytes
of unread commands, a stored byte outside those is the one stored, and where no unread command's input is met a stored byte is the one stored or as before. With
one command unread: which byte a load sees, which byte a store leaves in its output region, and every output byte once an input byte was stored to, are the free
values of log entry 15, for every value they have; and the command's old bytes become those stored. -/
def Obligations.RegionsStayTheBlocksUntilStatusIsRead : Prop :=
  (∀ (s : State) (addr n : Nat), s.status.busy = false → addr + n ≤ 2 ^ 32 →
    ∃ (bs : List Byte) (c : Nat), memLoad addr n s = .next { s with outbox := .bytes bs :: s.outbox, freeCount := c } ∧ bs.length = n ∧
      ∀ k, k < n → bs.getD k 0 = readByte s.mem (addr + k) ∨
        ∃ e ∈ s.unread, inRegion e.output (addr + k) = true ∧ bs.getD k 0 = readByte e.before (addr + k)) ∧
  (∀ (s : State) (addr : Nat) (v : List Byte), s.status.busy = false → Memory.wf s.mem → addr + v.length ≤ 2 ^ 32 →
    ∃ (m : Memory) (c : Nat), memStore addr v s =
        .next { s with mem := m, unread := s.unread.map (fun e => { e with before := writeBytes e.before addr v }), freeCount := c } ∧
      (∀ a, (a < addr ∨ addr + v.length ≤ a) → (∀ e ∈ s.unread, inRegion e.output a = false) → readByte m a = readByte s.mem a) ∧
      (∀ k, k < v.length → (∀ e ∈ s.unread, inRegion e.output (addr + k) = false) → readByte m (addr + k) = v.getD k 0) ∧
      ((∀ e ∈ s.unread, ∀ q ∈ e.inputs, regionsOverlap (addr, v.length) q = false) →
        (∀ a, (a < addr ∨ addr + v.length ≤ a) → readByte m a = readByte s.mem a) ∧
        ∀ k, k < v.length → readByte m (addr + k) = v.getD k 0 ∨ readByte m (addr + k) = readByte s.mem (addr + k))) ∧
  (∀ (s : State) (e : Unread) (a : Nat), s.status.busy = false → s.unread = [e] → a < 2 ^ 32 → inRegion e.output a = true →
    memLoad a 1 s = .next { s with
      outbox := .bytes [if Config.takesNew (s.freeCount + 1) a = true then readByte s.mem a else readByte e.before a] :: s.outbox
      freeCount := s.freeCount + 2 }) ∧
  (∀ (s t : State) (e : Unread) (a : Nat) (b : Byte), s.status.busy = false → Memory.wf s.mem → s.unread = [e] → memStore a [b] s = .next t →
    ((∀ q ∈ e.inputs, regionsOverlap (a, 1) q = false) → inRegion e.output a = true →
      readByte t.mem a = if Config.takesNew s.freeCount a = true then readByte s.mem a else b) ∧
    ((∃ q ∈ e.inputs, regionsOverlap (a, 1) q = true) → ∀ x, inRegion e.output x = true → readByte t.mem x = Config.racedByte s.freeCount x))
end

