-- ==== Sys2Proof/Laws/Memory.lean ====
section
/-! SUPPORT. Memory: what a read sees after a write, and that every operation keeps the canonical form. -/

namespace Sys2Proof.Machine

@[simp] theorem readByte_nil (a : Nat) : readByte [] a = Config.unlistedByte := rfl

theorem readByte_of_not_mem {m : Memory} {a : Nat} (h : ∀ c ∈ m, c.1 ≠ a) : readByte m a = Config.unlistedByte := by
  induction m with
  | nil => rfl
  | cons c m ih =>
    obtain ⟨k, b⟩ := c
    simp only [readByte]
    rw [if_neg (h (k, b) (by simp))]
    exact ih fun c hc => h c (by simp [hc])

theorem readByte_consCell {m : Memory} {a : Nat} {b : Byte} (h : ∀ c ∈ m, c.1 ≠ a) (x : Nat) :
    readByte (consCell a b m) x = if a = x then b else readByte m x := by
  unfold consCell
  split
  case isTrue hb =>
    split
    case isTrue hx => subst hx; rw [readByte_of_not_mem h, hb]
    case isFalse => rfl
  case isFalse => simp [readByte]

/-- A byte write is seen at its own address and nowhere else (R54). -/
theorem readByte_writeByte {m : Memory} (hs : m.Pairwise fun c d => c.1 < d.1) (a : Nat) (b : Byte) (x : Nat) :
    readByte (writeByte m a b) x = if a = x then b else readByte m x := by
  induction m with
  | nil => rw [writeByte, readByte_consCell (by simp)]
  | cons c m ih =>
    obtain ⟨k, c⟩ := c
    rw [List.pairwise_cons] at hs
    simp only [writeByte]
    split
    case isTrue hlt =>
      apply readByte_consCell
      intro d hd
      rcases List.mem_cons.1 hd with rfl | hd
      · simp; omega
      · have := hs.1 d hd; simp at this; omega
    case isFalse hlt =>
      split
      case isTrue heq =>
        subst heq
        rw [readByte_consCell]
        · split <;> simp_all [readByte]
        · intro d hd; have := hs.1 d hd; simp at this; omega
      case isFalse hne =>
        simp only [readByte, ih hs.2]
        split <;> split <;> first | rfl | omega

theorem mem_consCell {m : Memory} {a : Nat} {b : Byte} {c : Host.Cell} (h : c ∈ consCell a b m) : c = (a, b) ∧ b ≠ Config.unlistedByte ∨ c ∈ m := by
  unfold consCell at h
  split at h
  case isTrue => exact .inr h
  case isFalse hb => rcases List.mem_cons.1 h with h | h
                     · exact .inl ⟨h, hb⟩
                     · exact .inr h

theorem mem_writeByte {m : Memory} {a : Nat} {b : Byte} {c : Host.Cell} (h : c ∈ writeByte m a b) :
    c = (a, b) ∧ b ≠ Config.unlistedByte ∨ c ∈ m := by
  induction m with
  | nil => exact mem_consCell h
  | cons d m ih =>
    obtain ⟨k, d⟩ := d
    simp only [writeByte] at h
    split at h
    · exact mem_consCell h
    · split at h
      · rcases mem_consCell h with h | h
        · exact .inl h
        · exact .inr (by simp [h])
      · rcases List.mem_cons.1 h with h | h
        · exact .inr (by simp [h])
        · rcases ih h with h | h
          · exact .inl h
          · exact .inr (by simp [h])

theorem pairwise_consCell {m : Memory} {a : Nat} {b : Byte} (hs : m.Pairwise fun c d => c.1 < d.1) (h : ∀ c ∈ m, a < c.1) :
    (consCell a b m).Pairwise fun c d => c.1 < d.1 := by
  unfold consCell
  split
  · exact hs
  · exact List.pairwise_cons.2 ⟨h, hs⟩

theorem pairwise_writeByte {m : Memory} (hs : m.Pairwise fun c d => c.1 < d.1) (a : Nat) (b : Byte) :
    (writeByte m a b).Pairwise fun c d => c.1 < d.1 := by
  induction m with
  | nil => exact pairwise_consCell hs (by simp)
  | cons c m ih =>
    obtain ⟨k, c⟩ := c
    have hs' := hs
    rw [List.pairwise_cons] at hs
    simp only [writeByte]
    split
    case isTrue hlt =>
      apply pairwise_consCell hs'
      intro d hd
      rcases List.mem_cons.1 hd with rfl | hd
      · exact hlt
      · exact hlt.trans (hs.1 d hd)
    case isFalse hlt =>
      split
      case isTrue heq =>
        subst heq
        exact pairwise_consCell hs.2 hs.1
      case isFalse hne =>
        refine List.pairwise_cons.2 ⟨?_, ih hs.2⟩
        intro d hd
        rcases mem_writeByte hd with ⟨rfl, -⟩ | hd
        · simp; omega
        · exact hs.1 d hd

/-- A byte write inside the address space keeps the canonical form. -/
theorem wf_writeByte {m : Memory} (h : Memory.wf m) {a : Nat} (ha : a < Config.memorySize) (b : Byte) : Memory.wf (writeByte m a b) := by
  refine ⟨pairwise_writeByte h.1 a b, fun c hc => ?_⟩
  rcases mem_writeByte hc with ⟨rfl, hb⟩ | hc
  · exact ⟨ha, hb⟩
  · exact h.2 c hc

theorem pairwise_writeBytes {m : Memory} (hs : m.Pairwise fun c d => c.1 < d.1) (a : Nat) (v : List Byte) :
    (writeBytes m a v).Pairwise fun c d => c.1 < d.1 := by
  induction v generalizing m a with
  | nil => exact hs
  | cons b v ih => exact ih (pairwise_writeByte hs a b) (a + 1)

/-- A MemWrite inside the address space keeps the canonical form. -/
theorem wf_writeBytes {m : Memory} (h : Memory.wf m) (a : Nat) (v : List Byte) (ha : a + v.length ≤ Config.memorySize) :
    Memory.wf (writeBytes m a v) := by
  induction v generalizing m a with
  | nil => exact h
  | cons b v ih =>
    simp only [List.length_cons] at ha
    exact ih (wf_writeByte h (by omega) b) (a + 1) (by omega)

/-- Outside the written bytes a MemWrite changes nothing (R54). -/
theorem readByte_writeBytes_of_outside {m : Memory} (hs : m.Pairwise fun c d => c.1 < d.1) (a : Nat) (v : List Byte) {x : Nat}
    (hx : x < a ∨ a + v.length ≤ x) : readByte (writeBytes m a v) x = readByte m x := by
  induction v generalizing m a with
  | nil => rfl
  | cons b v ih =>
    simp only [List.length_cons] at hx
    rw [writeBytes, ih (pairwise_writeByte hs a b) (a + 1) (by omega), readByte_writeByte hs, if_neg (by omega)]

/-- Byte `k` of the written sequence stands at address `a + k` (R54). -/
theorem readByte_writeBytes_of_inside {m : Memory} (hs : m.Pairwise fun c d => c.1 < d.1) (a : Nat) (v : List Byte) {k : Nat}
    (hk : k < v.length) : readByte (writeBytes m a v) (a + k) = v[k] := by
  induction v generalizing m a k with
  | nil => simp at hk
  | cons b v ih =>
    cases k with
    | zero =>
      rw [writeBytes, readByte_writeBytes_of_outside (pairwise_writeByte hs a b) (a + 1) v (by omega)]
      simp [readByte_writeByte hs]
    | succ k =>
      have := ih (pairwise_writeByte hs a b) (a + 1) (k := k) (by simpa using hk)
      rw [writeBytes, show a + (k + 1) = a + 1 + k by omega, this]
      rfl

@[simp] theorem readBytes_length (m : Memory) (a n : Nat) : (readBytes m a n).length = n := by
  induction n generalizing a with
  | zero => rfl
  | succ n ih => simp [readBytes, ih]

/-- Byte `k` of a MemRead is the byte at address `a + k` (R53). -/
theorem getElem_readBytes (m : Memory) (a n : Nat) {k : Nat} (hk : k < (readBytes m a n).length) : (readBytes m a n)[k] = readByte m (a + k) := by
  induction n generalizing a k with
  | zero => simp at hk
  | succ n ih =>
    cases k with
    | zero => rfl
    | succ k =>
      have := ih (a + 1) (k := k) (by simpa using hk)
      simp only [readBytes, List.getElem_cons_succ]
      rw [this]
      congr 1; omega

/-- Reading back what was written gives it (R53, R54). -/
theorem readBytes_writeBytes {m : Memory} (hs : m.Pairwise fun c d => c.1 < d.1) (a : Nat) (v : List Byte) :
    readBytes (writeBytes m a v) a v.length = v := by
  apply List.ext_getElem (by simp)
  intro k h1 h2
  rw [getElem_readBytes, readByte_writeBytes_of_inside hs a v h2]

/-- Two reads agree where the bytes of the region agree (R61). -/
theorem readBytes_congr {m m' : Memory} {a n : Nat} (h : ∀ x, a ≤ x → x < a + n → readByte m x = readByte m' x) :
    readBytes m a n = readBytes m' a n := by
  induction n generalizing a with
  | zero => rfl
  | succ n ih => rw [readBytes, readBytes, h a (by omega) (by omega), ih fun x h1 h2 => h x (by omega) (by omega)]

theorem wf_nil : Memory.wf [] := by decide

end Sys2Proof.Machine
end

