-- ==== Sys2Proof/Laws/State.lean ====
section
/-! SUPPORT. One lemma per field per shared update of State, true by definition, so that no later proof unfolds a record update; the fields of STATUS after
each of its changes; the operand registers by name under every update that keeps them. -/

namespace Sys2Proof.Machine

@[simp] theorem reject_x (c : ErrCode) (s : State) : (reject c s).x = s.x := rfl
@[simp] theorem reject_cmd (c : ErrCode) (s : State) : (reject c s).cmd = s.cmd := rfl
@[simp] theorem reject_status (c : ErrCode) (s : State) : (reject c s).status = statusRejected c s.status := rfl
@[simp] theorem reject_h (c : ErrCode) (s : State) : (reject c s).h = s.h := rfl
@[simp] theorem reject_blk (c : ErrCode) (s : State) : (reject c s).blk = s.blk := rfl
@[simp] theorem reject_w (c : ErrCode) (s : State) : (reject c s).w = s.w := rfl
@[simp] theorem reject_k0 (c : ErrCode) (s : State) : (reject c s).k0 = s.k0 := rfl
@[simp] theorem reject_ih (c : ErrCode) (s : State) : (reject c s).ih = s.ih := rfl
@[simp] theorem reject_u (c : ErrCode) (s : State) : (reject c s).u = s.u := rfl
@[simp] theorem reject_t (c : ErrCode) (s : State) : (reject c s).t = s.t := rfl
@[simp] theorem reject_mem (c : ErrCode) (s : State) : (reject c s).mem = s.mem := rfl
@[simp] theorem reject_inbox (c : ErrCode) (s : State) : (reject c s).inbox = s.inbox := rfl
@[simp] theorem reject_outbox (c : ErrCode) (s : State) : (reject c s).outbox = s.outbox := rfl
@[simp] theorem reject_latency (c : ErrCode) (s : State) : (reject c s).latency = s.latency := rfl
@[simp] theorem reject_remaining (c : ErrCode) (s : State) : (reject c s).remaining = s.remaining := rfl
@[simp] theorem reject_stores (c : ErrCode) (s : State) : (reject c s).stores = s.stores := rfl
@[simp] theorem reject_unread (c : ErrCode) (s : State) : (reject c s).unread = s.unread := rfl
@[simp] theorem reject_freeCount (c : ErrCode) (s : State) : (reject c s).freeCount = s.freeCount := rfl
@[simp] theorem reject_src (c : ErrCode) (s : State) : (reject c s).src = s.src := rfl
@[simp] theorem reject_len (c : ErrCode) (s : State) : (reject c s).len = s.len := rfl
@[simp] theorem reject_dst (c : ErrCode) (s : State) : (reject c s).dst = s.dst := rfl
@[simp] theorem reject_key (c : ErrCode) (s : State) : (reject c s).key = s.key := rfl
@[simp] theorem reject_keylen (c : ErrCode) (s : State) : (reject c s).keylen = s.keylen := rfl
@[simp] theorem reject_rounds (c : ErrCode) (s : State) : (reject c s).rounds = s.rounds := rfl
@[simp] theorem reject_outlen (c : ErrCode) (s : State) : (reject c s).outlen = s.outlen := rfl

@[simp] theorem accept_x (v : Word32) (s : State) : (accept v s).x = s.x := rfl
@[simp] theorem accept_cmd (v : Word32) (s : State) : (accept v s).cmd = v := rfl
@[simp] theorem accept_status (v : Word32) (s : State) : (accept v s).status = statusAccepted s.status := rfl
@[simp] theorem accept_h (v : Word32) (s : State) : (accept v s).h = s.h := rfl
@[simp] theorem accept_blk (v : Word32) (s : State) : (accept v s).blk = s.blk := rfl
@[simp] theorem accept_w (v : Word32) (s : State) : (accept v s).w = s.w := rfl
@[simp] theorem accept_k0 (v : Word32) (s : State) : (accept v s).k0 = s.k0 := rfl
@[simp] theorem accept_ih (v : Word32) (s : State) : (accept v s).ih = s.ih := rfl
@[simp] theorem accept_u (v : Word32) (s : State) : (accept v s).u = s.u := rfl
@[simp] theorem accept_t (v : Word32) (s : State) : (accept v s).t = s.t := rfl
@[simp] theorem accept_mem (v : Word32) (s : State) : (accept v s).mem = s.mem := rfl
@[simp] theorem accept_inbox (v : Word32) (s : State) : (accept v s).inbox = s.inbox := rfl
@[simp] theorem accept_outbox (v : Word32) (s : State) : (accept v s).outbox = s.outbox := rfl
@[simp] theorem accept_latency (v : Word32) (s : State) : (accept v s).latency = s.latency := rfl
@[simp] theorem accept_remaining (v : Word32) (s : State) : (accept v s).remaining = s.remaining := rfl
@[simp] theorem accept_stores (v : Word32) (s : State) : (accept v s).stores = s.stores := rfl
@[simp] theorem accept_unread (v : Word32) (s : State) : (accept v s).unread = s.unread := rfl
@[simp] theorem accept_freeCount (v : Word32) (s : State) : (accept v s).freeCount = s.freeCount := rfl
@[simp] theorem accept_src (v : Word32) (s : State) : (accept v s).src = s.src := rfl
@[simp] theorem accept_len (v : Word32) (s : State) : (accept v s).len = s.len := rfl
@[simp] theorem accept_dst (v : Word32) (s : State) : (accept v s).dst = s.dst := rfl
@[simp] theorem accept_key (v : Word32) (s : State) : (accept v s).key = s.key := rfl
@[simp] theorem accept_keylen (v : Word32) (s : State) : (accept v s).keylen = s.keylen := rfl
@[simp] theorem accept_rounds (v : Word32) (s : State) : (accept v s).rounds = s.rounds := rfl
@[simp] theorem accept_outlen (v : Word32) (s : State) : (accept v s).outlen = s.outlen := rfl

@[simp] theorem complete_x (s : State) : (complete s).x = s.x := rfl
@[simp] theorem complete_cmd (s : State) : (complete s).cmd = s.cmd := rfl
@[simp] theorem complete_status (s : State) : (complete s).status = statusCompleted s.status := rfl
@[simp] theorem complete_h (s : State) : (complete s).h = s.h := rfl
@[simp] theorem complete_blk (s : State) : (complete s).blk = s.blk := rfl
@[simp] theorem complete_w (s : State) : (complete s).w = s.w := rfl
@[simp] theorem complete_k0 (s : State) : (complete s).k0 = s.k0 := rfl
@[simp] theorem complete_ih (s : State) : (complete s).ih = s.ih := rfl
@[simp] theorem complete_u (s : State) : (complete s).u = s.u := rfl
@[simp] theorem complete_t (s : State) : (complete s).t = s.t := rfl
@[simp] theorem complete_mem (s : State) : (complete s).mem = s.mem := rfl
@[simp] theorem complete_inbox (s : State) : (complete s).inbox = s.inbox := rfl
@[simp] theorem complete_outbox (s : State) : (complete s).outbox = s.outbox := rfl
@[simp] theorem complete_latency (s : State) : (complete s).latency = s.latency := rfl
@[simp] theorem complete_remaining (s : State) : (complete s).remaining = s.remaining := rfl
@[simp] theorem complete_stores (s : State) : (complete s).stores = s.stores := rfl
@[simp] theorem complete_unread (s : State) : (complete s).unread = s.unread := rfl
@[simp] theorem complete_freeCount (s : State) : (complete s).freeCount = s.freeCount := rfl
@[simp] theorem complete_src (s : State) : (complete s).src = s.src := rfl
@[simp] theorem complete_len (s : State) : (complete s).len = s.len := rfl
@[simp] theorem complete_dst (s : State) : (complete s).dst = s.dst := rfl
@[simp] theorem complete_key (s : State) : (complete s).key = s.key := rfl
@[simp] theorem complete_keylen (s : State) : (complete s).keylen = s.keylen := rfl
@[simp] theorem complete_rounds (s : State) : (complete s).rounds = s.rounds := rfl
@[simp] theorem complete_outlen (s : State) : (complete s).outlen = s.outlen := rfl

@[simp] theorem zeroizeState_x (s : State) : (zeroizeState s).x = s.x := rfl
@[simp] theorem zeroizeState_cmd (s : State) : (zeroizeState s).cmd = s.cmd := rfl
@[simp] theorem zeroizeState_status (s : State) : (zeroizeState s).status = s.status := rfl
@[simp] theorem zeroizeState_h (s : State) : (zeroizeState s).h = .replicate 8 0 := rfl
@[simp] theorem zeroizeState_blk (s : State) : (zeroizeState s).blk = .replicate 128 0 := rfl
@[simp] theorem zeroizeState_w (s : State) : (zeroizeState s).w = .replicate 80 0 := rfl
@[simp] theorem zeroizeState_k0 (s : State) : (zeroizeState s).k0 = .replicate 128 0 := rfl
@[simp] theorem zeroizeState_ih (s : State) : (zeroizeState s).ih = .replicate 64 0 := rfl
@[simp] theorem zeroizeState_u (s : State) : (zeroizeState s).u = .replicate 64 0 := rfl
@[simp] theorem zeroizeState_t (s : State) : (zeroizeState s).t = .replicate 64 0 := rfl
@[simp] theorem zeroizeState_mem (s : State) : (zeroizeState s).mem = s.mem := rfl
@[simp] theorem zeroizeState_inbox (s : State) : (zeroizeState s).inbox = s.inbox := rfl
@[simp] theorem zeroizeState_outbox (s : State) : (zeroizeState s).outbox = s.outbox := rfl
@[simp] theorem zeroizeState_latency (s : State) : (zeroizeState s).latency = s.latency := rfl
@[simp] theorem zeroizeState_remaining (s : State) : (zeroizeState s).remaining = s.remaining := rfl
@[simp] theorem zeroizeState_stores (s : State) : (zeroizeState s).stores = s.stores := rfl
@[simp] theorem zeroizeState_unread (s : State) : (zeroizeState s).unread = s.unread := rfl
@[simp] theorem zeroizeState_freeCount (s : State) : (zeroizeState s).freeCount = s.freeCount := rfl
@[simp] theorem zeroizeState_src (s : State) : (zeroizeState s).src = s.src := rfl
@[simp] theorem zeroizeState_len (s : State) : (zeroizeState s).len = s.len := rfl
@[simp] theorem zeroizeState_dst (s : State) : (zeroizeState s).dst = s.dst := rfl
@[simp] theorem zeroizeState_key (s : State) : (zeroizeState s).key = s.key := rfl
@[simp] theorem zeroizeState_keylen (s : State) : (zeroizeState s).keylen = s.keylen := rfl
@[simp] theorem zeroizeState_rounds (s : State) : (zeroizeState s).rounds = s.rounds := rfl
@[simp] theorem zeroizeState_outlen (s : State) : (zeroizeState s).outlen = s.outlen := rfl

@[simp] theorem initEffect_x (alg : Alg) (s : State) : (initEffect alg s).x = s.x := rfl
@[simp] theorem initEffect_cmd (alg : Alg) (s : State) : (initEffect alg s).cmd = s.cmd := rfl
@[simp] theorem initEffect_status (alg : Alg) (s : State) : (initEffect alg s).status = s.status := rfl
@[simp] theorem initEffect_h (alg : Alg) (s : State) : (initEffect alg s).h = initialBank alg := rfl
@[simp] theorem initEffect_blk (alg : Alg) (s : State) : (initEffect alg s).blk = s.blk := rfl
@[simp] theorem initEffect_w (alg : Alg) (s : State) : (initEffect alg s).w = s.w := rfl
@[simp] theorem initEffect_k0 (alg : Alg) (s : State) : (initEffect alg s).k0 = s.k0 := rfl
@[simp] theorem initEffect_ih (alg : Alg) (s : State) : (initEffect alg s).ih = s.ih := rfl
@[simp] theorem initEffect_u (alg : Alg) (s : State) : (initEffect alg s).u = s.u := rfl
@[simp] theorem initEffect_t (alg : Alg) (s : State) : (initEffect alg s).t = s.t := rfl
@[simp] theorem initEffect_mem (alg : Alg) (s : State) : (initEffect alg s).mem = s.mem := rfl
@[simp] theorem initEffect_inbox (alg : Alg) (s : State) : (initEffect alg s).inbox = s.inbox := rfl
@[simp] theorem initEffect_outbox (alg : Alg) (s : State) : (initEffect alg s).outbox = s.outbox := rfl
@[simp] theorem initEffect_latency (alg : Alg) (s : State) : (initEffect alg s).latency = s.latency := rfl
@[simp] theorem initEffect_remaining (alg : Alg) (s : State) : (initEffect alg s).remaining = s.remaining := rfl
@[simp] theorem initEffect_stores (alg : Alg) (s : State) : (initEffect alg s).stores = s.stores := rfl
@[simp] theorem initEffect_unread (alg : Alg) (s : State) : (initEffect alg s).unread = s.unread := rfl
@[simp] theorem initEffect_freeCount (alg : Alg) (s : State) : (initEffect alg s).freeCount = s.freeCount := rfl
@[simp] theorem initEffect_src (alg : Alg) (s : State) : (initEffect alg s).src = s.src := rfl
@[simp] theorem initEffect_len (alg : Alg) (s : State) : (initEffect alg s).len = s.len := rfl
@[simp] theorem initEffect_dst (alg : Alg) (s : State) : (initEffect alg s).dst = s.dst := rfl
@[simp] theorem initEffect_key (alg : Alg) (s : State) : (initEffect alg s).key = s.key := rfl
@[simp] theorem initEffect_keylen (alg : Alg) (s : State) : (initEffect alg s).keylen = s.keylen := rfl
@[simp] theorem initEffect_rounds (alg : Alg) (s : State) : (initEffect alg s).rounds = s.rounds := rfl
@[simp] theorem initEffect_outlen (alg : Alg) (s : State) : (initEffect alg s).outlen = s.outlen := rfl

@[simp] theorem compressEffect_x (alg : Alg) (s : State) : (compressEffect alg s).x = s.x := rfl
@[simp] theorem compressEffect_cmd (alg : Alg) (s : State) : (compressEffect alg s).cmd = s.cmd := rfl
@[simp] theorem compressEffect_status (alg : Alg) (s : State) : (compressEffect alg s).status = s.status := rfl
@[simp] theorem compressEffect_h (alg : Alg) (s : State) : (compressEffect alg s).h = engine alg s.h (bufferBlock alg s) := rfl
@[simp] theorem compressEffect_blk (alg : Alg) (s : State) : (compressEffect alg s).blk = s.blk := rfl
@[simp] theorem compressEffect_w (alg : Alg) (s : State) : (compressEffect alg s).w = .replicate 80 0 := rfl
@[simp] theorem compressEffect_k0 (alg : Alg) (s : State) : (compressEffect alg s).k0 = s.k0 := rfl
@[simp] theorem compressEffect_ih (alg : Alg) (s : State) : (compressEffect alg s).ih = s.ih := rfl
@[simp] theorem compressEffect_u (alg : Alg) (s : State) : (compressEffect alg s).u = s.u := rfl
@[simp] theorem compressEffect_t (alg : Alg) (s : State) : (compressEffect alg s).t = s.t := rfl
@[simp] theorem compressEffect_mem (alg : Alg) (s : State) : (compressEffect alg s).mem = s.mem := rfl
@[simp] theorem compressEffect_inbox (alg : Alg) (s : State) : (compressEffect alg s).inbox = s.inbox := rfl
@[simp] theorem compressEffect_outbox (alg : Alg) (s : State) : (compressEffect alg s).outbox = s.outbox := rfl
@[simp] theorem compressEffect_latency (alg : Alg) (s : State) : (compressEffect alg s).latency = s.latency := rfl
@[simp] theorem compressEffect_remaining (alg : Alg) (s : State) : (compressEffect alg s).remaining = s.remaining := rfl
@[simp] theorem compressEffect_stores (alg : Alg) (s : State) : (compressEffect alg s).stores = s.stores := rfl
@[simp] theorem compressEffect_unread (alg : Alg) (s : State) : (compressEffect alg s).unread = s.unread := rfl
@[simp] theorem compressEffect_freeCount (alg : Alg) (s : State) : (compressEffect alg s).freeCount = s.freeCount := rfl
@[simp] theorem compressEffect_src (alg : Alg) (s : State) : (compressEffect alg s).src = s.src := rfl
@[simp] theorem compressEffect_len (alg : Alg) (s : State) : (compressEffect alg s).len = s.len := rfl
@[simp] theorem compressEffect_dst (alg : Alg) (s : State) : (compressEffect alg s).dst = s.dst := rfl
@[simp] theorem compressEffect_key (alg : Alg) (s : State) : (compressEffect alg s).key = s.key := rfl
@[simp] theorem compressEffect_keylen (alg : Alg) (s : State) : (compressEffect alg s).keylen = s.keylen := rfl
@[simp] theorem compressEffect_rounds (alg : Alg) (s : State) : (compressEffect alg s).rounds = s.rounds := rfl
@[simp] theorem compressEffect_outlen (alg : Alg) (s : State) : (compressEffect alg s).outlen = s.outlen := rfl

@[simp] theorem finalEffect_x (alg : Alg) (s : State) : (finalEffect alg s).x = s.x := rfl
@[simp] theorem finalEffect_cmd (alg : Alg) (s : State) : (finalEffect alg s).cmd = s.cmd := rfl
@[simp] theorem finalEffect_status (alg : Alg) (s : State) : (finalEffect alg s).status = s.status := rfl
@[simp] theorem finalEffect_h (alg : Alg) (s : State) : (finalEffect alg s).h = finalize alg s.h (finalTail alg s) s.len.toNat := rfl
@[simp] theorem finalEffect_blk (alg : Alg) (s : State) : (finalEffect alg s).blk = .replicate 128 0 := rfl
@[simp] theorem finalEffect_w (alg : Alg) (s : State) : (finalEffect alg s).w = .replicate 80 0 := rfl
@[simp] theorem finalEffect_k0 (alg : Alg) (s : State) : (finalEffect alg s).k0 = s.k0 := rfl
@[simp] theorem finalEffect_ih (alg : Alg) (s : State) : (finalEffect alg s).ih = s.ih := rfl
@[simp] theorem finalEffect_u (alg : Alg) (s : State) : (finalEffect alg s).u = s.u := rfl
@[simp] theorem finalEffect_t (alg : Alg) (s : State) : (finalEffect alg s).t = s.t := rfl
@[simp] theorem finalEffect_mem (alg : Alg) (s : State) : (finalEffect alg s).mem = s.mem := rfl
@[simp] theorem finalEffect_inbox (alg : Alg) (s : State) : (finalEffect alg s).inbox = s.inbox := rfl
@[simp] theorem finalEffect_outbox (alg : Alg) (s : State) : (finalEffect alg s).outbox = s.outbox := rfl
@[simp] theorem finalEffect_latency (alg : Alg) (s : State) : (finalEffect alg s).latency = s.latency := rfl
@[simp] theorem finalEffect_remaining (alg : Alg) (s : State) : (finalEffect alg s).remaining = s.remaining := rfl
@[simp] theorem finalEffect_stores (alg : Alg) (s : State) : (finalEffect alg s).stores = s.stores := rfl
@[simp] theorem finalEffect_unread (alg : Alg) (s : State) : (finalEffect alg s).unread = s.unread := rfl
@[simp] theorem finalEffect_freeCount (alg : Alg) (s : State) : (finalEffect alg s).freeCount = s.freeCount := rfl
@[simp] theorem finalEffect_src (alg : Alg) (s : State) : (finalEffect alg s).src = s.src := rfl
@[simp] theorem finalEffect_len (alg : Alg) (s : State) : (finalEffect alg s).len = s.len := rfl
@[simp] theorem finalEffect_dst (alg : Alg) (s : State) : (finalEffect alg s).dst = s.dst := rfl
@[simp] theorem finalEffect_key (alg : Alg) (s : State) : (finalEffect alg s).key = s.key := rfl
@[simp] theorem finalEffect_keylen (alg : Alg) (s : State) : (finalEffect alg s).keylen = s.keylen := rfl
@[simp] theorem finalEffect_rounds (alg : Alg) (s : State) : (finalEffect alg s).rounds = s.rounds := rfl
@[simp] theorem finalEffect_outlen (alg : Alg) (s : State) : (finalEffect alg s).outlen = s.outlen := rfl

@[simp] theorem storehEffect_x (alg : Alg) (s : State) : (storehEffect alg s).x = s.x := rfl
@[simp] theorem storehEffect_cmd (alg : Alg) (s : State) : (storehEffect alg s).cmd = s.cmd := rfl
@[simp] theorem storehEffect_status (alg : Alg) (s : State) : (storehEffect alg s).status = s.status := rfl
@[simp] theorem storehEffect_h (alg : Alg) (s : State) : (storehEffect alg s).h = s.h := rfl
@[simp] theorem storehEffect_blk (alg : Alg) (s : State) : (storehEffect alg s).blk = s.blk := rfl
@[simp] theorem storehEffect_w (alg : Alg) (s : State) : (storehEffect alg s).w = s.w := rfl
@[simp] theorem storehEffect_k0 (alg : Alg) (s : State) : (storehEffect alg s).k0 = s.k0 := rfl
@[simp] theorem storehEffect_ih (alg : Alg) (s : State) : (storehEffect alg s).ih = s.ih := rfl
@[simp] theorem storehEffect_u (alg : Alg) (s : State) : (storehEffect alg s).u = s.u := rfl
@[simp] theorem storehEffect_t (alg : Alg) (s : State) : (storehEffect alg s).t = s.t := rfl
@[simp] theorem storehEffect_mem (alg : Alg) (s : State) : (storehEffect alg s).mem = writeBytes s.mem s.dst.toNat (stateBytes alg s.h) := rfl
@[simp] theorem storehEffect_inbox (alg : Alg) (s : State) : (storehEffect alg s).inbox = s.inbox := rfl
@[simp] theorem storehEffect_outbox (alg : Alg) (s : State) : (storehEffect alg s).outbox = s.outbox := rfl
@[simp] theorem storehEffect_latency (alg : Alg) (s : State) : (storehEffect alg s).latency = s.latency := rfl
@[simp] theorem storehEffect_remaining (alg : Alg) (s : State) : (storehEffect alg s).remaining = s.remaining := rfl
@[simp] theorem storehEffect_stores (alg : Alg) (s : State) : (storehEffect alg s).stores = s.stores := rfl
@[simp] theorem storehEffect_unread (alg : Alg) (s : State) : (storehEffect alg s).unread = s.unread := rfl
@[simp] theorem storehEffect_freeCount (alg : Alg) (s : State) : (storehEffect alg s).freeCount = s.freeCount := rfl
@[simp] theorem storehEffect_src (alg : Alg) (s : State) : (storehEffect alg s).src = s.src := rfl
@[simp] theorem storehEffect_len (alg : Alg) (s : State) : (storehEffect alg s).len = s.len := rfl
@[simp] theorem storehEffect_dst (alg : Alg) (s : State) : (storehEffect alg s).dst = s.dst := rfl
@[simp] theorem storehEffect_key (alg : Alg) (s : State) : (storehEffect alg s).key = s.key := rfl
@[simp] theorem storehEffect_keylen (alg : Alg) (s : State) : (storehEffect alg s).keylen = s.keylen := rfl
@[simp] theorem storehEffect_rounds (alg : Alg) (s : State) : (storehEffect alg s).rounds = s.rounds := rfl
@[simp] theorem storehEffect_outlen (alg : Alg) (s : State) : (storehEffect alg s).outlen = s.outlen := rfl

@[simp] theorem digestEffect_x (alg : Alg) (s : State) : (digestEffect alg s).x = s.x := rfl
@[simp] theorem digestEffect_cmd (alg : Alg) (s : State) : (digestEffect alg s).cmd = s.cmd := rfl
@[simp] theorem digestEffect_status (alg : Alg) (s : State) : (digestEffect alg s).status = s.status := rfl
@[simp] theorem digestEffect_h (alg : Alg) (s : State) : (digestEffect alg s).h = .replicate 8 0 := rfl
@[simp] theorem digestEffect_blk (alg : Alg) (s : State) : (digestEffect alg s).blk = .replicate 128 0 := rfl
@[simp] theorem digestEffect_w (alg : Alg) (s : State) : (digestEffect alg s).w = .replicate 80 0 := rfl
@[simp] theorem digestEffect_k0 (alg : Alg) (s : State) : (digestEffect alg s).k0 = .replicate 128 0 := rfl
@[simp] theorem digestEffect_ih (alg : Alg) (s : State) : (digestEffect alg s).ih = .replicate 64 0 := rfl
@[simp] theorem digestEffect_u (alg : Alg) (s : State) : (digestEffect alg s).u = .replicate 64 0 := rfl
@[simp] theorem digestEffect_t (alg : Alg) (s : State) : (digestEffect alg s).t = .replicate 64 0 := rfl
@[simp] theorem digestEffect_mem (alg : Alg) (s : State) : (digestEffect alg s).mem = writeBytes s.mem s.dst.toNat (digestOutput alg s) := rfl
@[simp] theorem digestEffect_inbox (alg : Alg) (s : State) : (digestEffect alg s).inbox = s.inbox := rfl
@[simp] theorem digestEffect_outbox (alg : Alg) (s : State) : (digestEffect alg s).outbox = s.outbox := rfl
@[simp] theorem digestEffect_latency (alg : Alg) (s : State) : (digestEffect alg s).latency = s.latency := rfl
@[simp] theorem digestEffect_remaining (alg : Alg) (s : State) : (digestEffect alg s).remaining = s.remaining := rfl
@[simp] theorem digestEffect_stores (alg : Alg) (s : State) : (digestEffect alg s).stores = s.stores := rfl
@[simp] theorem digestEffect_unread (alg : Alg) (s : State) : (digestEffect alg s).unread = s.unread := rfl
@[simp] theorem digestEffect_freeCount (alg : Alg) (s : State) : (digestEffect alg s).freeCount = s.freeCount := rfl
@[simp] theorem digestEffect_src (alg : Alg) (s : State) : (digestEffect alg s).src = s.src := rfl
@[simp] theorem digestEffect_len (alg : Alg) (s : State) : (digestEffect alg s).len = s.len := rfl
@[simp] theorem digestEffect_dst (alg : Alg) (s : State) : (digestEffect alg s).dst = s.dst := rfl
@[simp] theorem digestEffect_key (alg : Alg) (s : State) : (digestEffect alg s).key = s.key := rfl
@[simp] theorem digestEffect_keylen (alg : Alg) (s : State) : (digestEffect alg s).keylen = s.keylen := rfl
@[simp] theorem digestEffect_rounds (alg : Alg) (s : State) : (digestEffect alg s).rounds = s.rounds := rfl
@[simp] theorem digestEffect_outlen (alg : Alg) (s : State) : (digestEffect alg s).outlen = s.outlen := rfl

@[simp] theorem hmacEffect_x (alg : Alg) (s : State) : (hmacEffect alg s).x = s.x := rfl
@[simp] theorem hmacEffect_cmd (alg : Alg) (s : State) : (hmacEffect alg s).cmd = s.cmd := rfl
@[simp] theorem hmacEffect_status (alg : Alg) (s : State) : (hmacEffect alg s).status = s.status := rfl
@[simp] theorem hmacEffect_h (alg : Alg) (s : State) : (hmacEffect alg s).h = .replicate 8 0 := rfl
@[simp] theorem hmacEffect_blk (alg : Alg) (s : State) : (hmacEffect alg s).blk = .replicate 128 0 := rfl
@[simp] theorem hmacEffect_w (alg : Alg) (s : State) : (hmacEffect alg s).w = .replicate 80 0 := rfl
@[simp] theorem hmacEffect_k0 (alg : Alg) (s : State) : (hmacEffect alg s).k0 = .replicate 128 0 := rfl
@[simp] theorem hmacEffect_ih (alg : Alg) (s : State) : (hmacEffect alg s).ih = .replicate 64 0 := rfl
@[simp] theorem hmacEffect_u (alg : Alg) (s : State) : (hmacEffect alg s).u = .replicate 64 0 := rfl
@[simp] theorem hmacEffect_t (alg : Alg) (s : State) : (hmacEffect alg s).t = .replicate 64 0 := rfl
@[simp] theorem hmacEffect_mem (alg : Alg) (s : State) : (hmacEffect alg s).mem = writeBytes s.mem s.dst.toNat (hmacOutput alg s) := rfl
@[simp] theorem hmacEffect_inbox (alg : Alg) (s : State) : (hmacEffect alg s).inbox = s.inbox := rfl
@[simp] theorem hmacEffect_outbox (alg : Alg) (s : State) : (hmacEffect alg s).outbox = s.outbox := rfl
@[simp] theorem hmacEffect_latency (alg : Alg) (s : State) : (hmacEffect alg s).latency = s.latency := rfl
@[simp] theorem hmacEffect_remaining (alg : Alg) (s : State) : (hmacEffect alg s).remaining = s.remaining := rfl
@[simp] theorem hmacEffect_stores (alg : Alg) (s : State) : (hmacEffect alg s).stores = s.stores := rfl
@[simp] theorem hmacEffect_unread (alg : Alg) (s : State) : (hmacEffect alg s).unread = s.unread := rfl
@[simp] theorem hmacEffect_freeCount (alg : Alg) (s : State) : (hmacEffect alg s).freeCount = s.freeCount := rfl
@[simp] theorem hmacEffect_src (alg : Alg) (s : State) : (hmacEffect alg s).src = s.src := rfl
@[simp] theorem hmacEffect_len (alg : Alg) (s : State) : (hmacEffect alg s).len = s.len := rfl
@[simp] theorem hmacEffect_dst (alg : Alg) (s : State) : (hmacEffect alg s).dst = s.dst := rfl
@[simp] theorem hmacEffect_key (alg : Alg) (s : State) : (hmacEffect alg s).key = s.key := rfl
@[simp] theorem hmacEffect_keylen (alg : Alg) (s : State) : (hmacEffect alg s).keylen = s.keylen := rfl
@[simp] theorem hmacEffect_rounds (alg : Alg) (s : State) : (hmacEffect alg s).rounds = s.rounds := rfl
@[simp] theorem hmacEffect_outlen (alg : Alg) (s : State) : (hmacEffect alg s).outlen = s.outlen := rfl

@[simp] theorem pbkdfEffect_x (alg : Alg) (s : State) : (pbkdfEffect alg s).x = s.x := rfl
@[simp] theorem pbkdfEffect_cmd (alg : Alg) (s : State) : (pbkdfEffect alg s).cmd = s.cmd := rfl
@[simp] theorem pbkdfEffect_status (alg : Alg) (s : State) : (pbkdfEffect alg s).status = s.status := rfl
@[simp] theorem pbkdfEffect_h (alg : Alg) (s : State) : (pbkdfEffect alg s).h = .replicate 8 0 := rfl
@[simp] theorem pbkdfEffect_blk (alg : Alg) (s : State) : (pbkdfEffect alg s).blk = .replicate 128 0 := rfl
@[simp] theorem pbkdfEffect_w (alg : Alg) (s : State) : (pbkdfEffect alg s).w = .replicate 80 0 := rfl
@[simp] theorem pbkdfEffect_k0 (alg : Alg) (s : State) : (pbkdfEffect alg s).k0 = .replicate 128 0 := rfl
@[simp] theorem pbkdfEffect_ih (alg : Alg) (s : State) : (pbkdfEffect alg s).ih = .replicate 64 0 := rfl
@[simp] theorem pbkdfEffect_u (alg : Alg) (s : State) : (pbkdfEffect alg s).u = .replicate 64 0 := rfl
@[simp] theorem pbkdfEffect_t (alg : Alg) (s : State) : (pbkdfEffect alg s).t = .replicate 64 0 := rfl
@[simp] theorem pbkdfEffect_mem (alg : Alg) (s : State) : (pbkdfEffect alg s).mem = writeBytes s.mem s.dst.toNat (pbkdfOutput alg s) := rfl
@[simp] theorem pbkdfEffect_inbox (alg : Alg) (s : State) : (pbkdfEffect alg s).inbox = s.inbox := rfl
@[simp] theorem pbkdfEffect_outbox (alg : Alg) (s : State) : (pbkdfEffect alg s).outbox = s.outbox := rfl
@[simp] theorem pbkdfEffect_latency (alg : Alg) (s : State) : (pbkdfEffect alg s).latency = s.latency := rfl
@[simp] theorem pbkdfEffect_remaining (alg : Alg) (s : State) : (pbkdfEffect alg s).remaining = s.remaining := rfl
@[simp] theorem pbkdfEffect_stores (alg : Alg) (s : State) : (pbkdfEffect alg s).stores = s.stores := rfl
@[simp] theorem pbkdfEffect_unread (alg : Alg) (s : State) : (pbkdfEffect alg s).unread = s.unread := rfl
@[simp] theorem pbkdfEffect_freeCount (alg : Alg) (s : State) : (pbkdfEffect alg s).freeCount = s.freeCount := rfl
@[simp] theorem pbkdfEffect_src (alg : Alg) (s : State) : (pbkdfEffect alg s).src = s.src := rfl
@[simp] theorem pbkdfEffect_len (alg : Alg) (s : State) : (pbkdfEffect alg s).len = s.len := rfl
@[simp] theorem pbkdfEffect_dst (alg : Alg) (s : State) : (pbkdfEffect alg s).dst = s.dst := rfl
@[simp] theorem pbkdfEffect_key (alg : Alg) (s : State) : (pbkdfEffect alg s).key = s.key := rfl
@[simp] theorem pbkdfEffect_keylen (alg : Alg) (s : State) : (pbkdfEffect alg s).keylen = s.keylen := rfl
@[simp] theorem pbkdfEffect_rounds (alg : Alg) (s : State) : (pbkdfEffect alg s).rounds = s.rounds := rfl
@[simp] theorem pbkdfEffect_outlen (alg : Alg) (s : State) : (pbkdfEffect alg s).outlen = s.outlen := rfl

@[simp] theorem acceptFor_x (d : Nat) (v : Word32) (s : State) : (acceptFor d v s).x = s.x := rfl
@[simp] theorem acceptFor_cmd (d : Nat) (v : Word32) (s : State) : (acceptFor d v s).cmd = v := rfl
@[simp] theorem acceptFor_status (d : Nat) (v : Word32) (s : State) : (acceptFor d v s).status = statusAccepted s.status := rfl
@[simp] theorem acceptFor_h (d : Nat) (v : Word32) (s : State) : (acceptFor d v s).h = s.h := rfl
@[simp] theorem acceptFor_blk (d : Nat) (v : Word32) (s : State) : (acceptFor d v s).blk = s.blk := rfl
@[simp] theorem acceptFor_w (d : Nat) (v : Word32) (s : State) : (acceptFor d v s).w = s.w := rfl
@[simp] theorem acceptFor_k0 (d : Nat) (v : Word32) (s : State) : (acceptFor d v s).k0 = s.k0 := rfl
@[simp] theorem acceptFor_ih (d : Nat) (v : Word32) (s : State) : (acceptFor d v s).ih = s.ih := rfl
@[simp] theorem acceptFor_u (d : Nat) (v : Word32) (s : State) : (acceptFor d v s).u = s.u := rfl
@[simp] theorem acceptFor_t (d : Nat) (v : Word32) (s : State) : (acceptFor d v s).t = s.t := rfl
@[simp] theorem acceptFor_mem (d : Nat) (v : Word32) (s : State) : (acceptFor d v s).mem = s.mem := rfl
@[simp] theorem acceptFor_inbox (d : Nat) (v : Word32) (s : State) : (acceptFor d v s).inbox = s.inbox := rfl
@[simp] theorem acceptFor_outbox (d : Nat) (v : Word32) (s : State) : (acceptFor d v s).outbox = s.outbox := rfl
@[simp] theorem acceptFor_latency (d : Nat) (v : Word32) (s : State) : (acceptFor d v s).latency = s.latency := rfl
@[simp] theorem acceptFor_remaining (d : Nat) (v : Word32) (s : State) : (acceptFor d v s).remaining = d := rfl
@[simp] theorem acceptFor_stores (d : Nat) (v : Word32) (s : State) : (acceptFor d v s).stores = [] := rfl
@[simp] theorem acceptFor_unread (d : Nat) (v : Word32) (s : State) : (acceptFor d v s).unread = s.unread := rfl
@[simp] theorem acceptFor_freeCount (d : Nat) (v : Word32) (s : State) : (acceptFor d v s).freeCount = s.freeCount := rfl
@[simp] theorem acceptFor_src (d : Nat) (v : Word32) (s : State) : (acceptFor d v s).src = s.src := rfl
@[simp] theorem acceptFor_len (d : Nat) (v : Word32) (s : State) : (acceptFor d v s).len = s.len := rfl
@[simp] theorem acceptFor_dst (d : Nat) (v : Word32) (s : State) : (acceptFor d v s).dst = s.dst := rfl
@[simp] theorem acceptFor_key (d : Nat) (v : Word32) (s : State) : (acceptFor d v s).key = s.key := rfl
@[simp] theorem acceptFor_keylen (d : Nat) (v : Word32) (s : State) : (acceptFor d v s).keylen = s.keylen := rfl
@[simp] theorem acceptFor_rounds (d : Nat) (v : Word32) (s : State) : (acceptFor d v s).rounds = s.rounds := rfl
@[simp] theorem acceptFor_outlen (d : Nat) (v : Word32) (s : State) : (acceptFor d v s).outlen = s.outlen := rfl

@[simp] theorem placeWord_x (v : Word32) (s : State) : (placeWord v s).x = s.x := rfl
@[simp] theorem placeWord_cmd (v : Word32) (s : State) : (placeWord v s).cmd = s.cmd := rfl
@[simp] theorem placeWord_status (v : Word32) (s : State) : (placeWord v s).status = { s.status with busy := false } := rfl
@[simp] theorem placeWord_h (v : Word32) (s : State) : (placeWord v s).h = s.h := rfl
@[simp] theorem placeWord_blk (v : Word32) (s : State) : (placeWord v s).blk = s.blk := rfl
@[simp] theorem placeWord_w (v : Word32) (s : State) : (placeWord v s).w = s.w := rfl
@[simp] theorem placeWord_k0 (v : Word32) (s : State) : (placeWord v s).k0 = s.k0 := rfl
@[simp] theorem placeWord_ih (v : Word32) (s : State) : (placeWord v s).ih = s.ih := rfl
@[simp] theorem placeWord_u (v : Word32) (s : State) : (placeWord v s).u = s.u := rfl
@[simp] theorem placeWord_t (v : Word32) (s : State) : (placeWord v s).t = s.t := rfl
@[simp] theorem placeWord_mem (v : Word32) (s : State) : (placeWord v s).mem = s.mem := rfl
@[simp] theorem placeWord_inbox (v : Word32) (s : State) : (placeWord v s).inbox = .regWrite 0x00 v :: s.inbox := rfl
@[simp] theorem placeWord_outbox (v : Word32) (s : State) : (placeWord v s).outbox = s.outbox := rfl
@[simp] theorem placeWord_latency (v : Word32) (s : State) : (placeWord v s).latency = 0 :: s.latency := rfl
@[simp] theorem placeWord_remaining (v : Word32) (s : State) : (placeWord v s).remaining = s.remaining := rfl
@[simp] theorem placeWord_stores (v : Word32) (s : State) : (placeWord v s).stores = s.stores := rfl
@[simp] theorem placeWord_unread (v : Word32) (s : State) : (placeWord v s).unread = s.unread := rfl
@[simp] theorem placeWord_freeCount (v : Word32) (s : State) : (placeWord v s).freeCount = s.freeCount := rfl
@[simp] theorem placeWord_src (v : Word32) (s : State) : (placeWord v s).src = s.src := rfl
@[simp] theorem placeWord_len (v : Word32) (s : State) : (placeWord v s).len = s.len := rfl
@[simp] theorem placeWord_dst (v : Word32) (s : State) : (placeWord v s).dst = s.dst := rfl
@[simp] theorem placeWord_key (v : Word32) (s : State) : (placeWord v s).key = s.key := rfl
@[simp] theorem placeWord_keylen (v : Word32) (s : State) : (placeWord v s).keylen = s.keylen := rfl
@[simp] theorem placeWord_rounds (v : Word32) (s : State) : (placeWord v s).rounds = s.rounds := rfl
@[simp] theorem placeWord_outlen (v : Word32) (s : State) : (placeWord v s).outlen = s.outlen := rfl

@[simp] theorem noteUnread_x (i : Instr) (s t : State) : (noteUnread i s t).x = t.x := by unfold noteUnread; split <;> rfl
@[simp] theorem noteUnread_cmd (i : Instr) (s t : State) : (noteUnread i s t).cmd = t.cmd := by unfold noteUnread; split <;> rfl
@[simp] theorem noteUnread_status (i : Instr) (s t : State) : (noteUnread i s t).status = t.status := by unfold noteUnread; split <;> rfl
@[simp] theorem noteUnread_h (i : Instr) (s t : State) : (noteUnread i s t).h = t.h := by unfold noteUnread; split <;> rfl
@[simp] theorem noteUnread_blk (i : Instr) (s t : State) : (noteUnread i s t).blk = t.blk := by unfold noteUnread; split <;> rfl
@[simp] theorem noteUnread_w (i : Instr) (s t : State) : (noteUnread i s t).w = t.w := by unfold noteUnread; split <;> rfl
@[simp] theorem noteUnread_k0 (i : Instr) (s t : State) : (noteUnread i s t).k0 = t.k0 := by unfold noteUnread; split <;> rfl
@[simp] theorem noteUnread_ih (i : Instr) (s t : State) : (noteUnread i s t).ih = t.ih := by unfold noteUnread; split <;> rfl
@[simp] theorem noteUnread_u (i : Instr) (s t : State) : (noteUnread i s t).u = t.u := by unfold noteUnread; split <;> rfl
@[simp] theorem noteUnread_t (i : Instr) (s t : State) : (noteUnread i s t).t = t.t := by unfold noteUnread; split <;> rfl
@[simp] theorem noteUnread_inbox (i : Instr) (s t : State) : (noteUnread i s t).inbox = t.inbox := by unfold noteUnread; split <;> rfl
@[simp] theorem noteUnread_outbox (i : Instr) (s t : State) : (noteUnread i s t).outbox = t.outbox := by unfold noteUnread; split <;> rfl
@[simp] theorem noteUnread_latency (i : Instr) (s t : State) : (noteUnread i s t).latency = t.latency := by unfold noteUnread; split <;> rfl
@[simp] theorem noteUnread_remaining (i : Instr) (s t : State) : (noteUnread i s t).remaining = t.remaining := by unfold noteUnread; split <;> rfl
@[simp] theorem noteUnread_mem (i : Instr) (s t : State) : (noteUnread i s t).mem = t.mem := by unfold noteUnread; split <;> rfl
@[simp] theorem noteUnread_stores (i : Instr) (s t : State) : (noteUnread i s t).stores = t.stores := by unfold noteUnread; split <;> rfl
@[simp] theorem noteUnread_freeCount (i : Instr) (s t : State) : (noteUnread i s t).freeCount = t.freeCount := by unfold noteUnread; split <;> rfl
@[simp] theorem noteUnread_src (i : Instr) (s t : State) : (noteUnread i s t).src = t.src := by simp [State.src]
@[simp] theorem noteUnread_len (i : Instr) (s t : State) : (noteUnread i s t).len = t.len := by simp [State.len]
@[simp] theorem noteUnread_dst (i : Instr) (s t : State) : (noteUnread i s t).dst = t.dst := by simp [State.dst]
@[simp] theorem noteUnread_key (i : Instr) (s t : State) : (noteUnread i s t).key = t.key := by simp [State.key]
@[simp] theorem noteUnread_keylen (i : Instr) (s t : State) : (noteUnread i s t).keylen = t.keylen := by simp [State.keylen]
@[simp] theorem noteUnread_rounds (i : Instr) (s t : State) : (noteUnread i s t).rounds = t.rounds := by simp [State.rounds]
@[simp] theorem noteUnread_outlen (i : Instr) (s t : State) : (noteUnread i s t).outlen = t.outlen := by simp [State.outlen]

@[simp] theorem storeOutside_x (a : Nat) (v : List Byte) (s : State) : (storeOutside a v s).x = s.x := rfl
@[simp] theorem storeOutside_cmd (a : Nat) (v : List Byte) (s : State) : (storeOutside a v s).cmd = s.cmd := rfl
@[simp] theorem storeOutside_status (a : Nat) (v : List Byte) (s : State) : (storeOutside a v s).status = s.status := rfl
@[simp] theorem storeOutside_h (a : Nat) (v : List Byte) (s : State) : (storeOutside a v s).h = s.h := rfl
@[simp] theorem storeOutside_blk (a : Nat) (v : List Byte) (s : State) : (storeOutside a v s).blk = s.blk := rfl
@[simp] theorem storeOutside_w (a : Nat) (v : List Byte) (s : State) : (storeOutside a v s).w = s.w := rfl
@[simp] theorem storeOutside_k0 (a : Nat) (v : List Byte) (s : State) : (storeOutside a v s).k0 = s.k0 := rfl
@[simp] theorem storeOutside_ih (a : Nat) (v : List Byte) (s : State) : (storeOutside a v s).ih = s.ih := rfl
@[simp] theorem storeOutside_u (a : Nat) (v : List Byte) (s : State) : (storeOutside a v s).u = s.u := rfl
@[simp] theorem storeOutside_t (a : Nat) (v : List Byte) (s : State) : (storeOutside a v s).t = s.t := rfl
@[simp] theorem storeOutside_inbox (a : Nat) (v : List Byte) (s : State) : (storeOutside a v s).inbox = s.inbox := rfl
@[simp] theorem storeOutside_outbox (a : Nat) (v : List Byte) (s : State) : (storeOutside a v s).outbox = s.outbox := rfl
@[simp] theorem storeOutside_latency (a : Nat) (v : List Byte) (s : State) : (storeOutside a v s).latency = s.latency := rfl
@[simp] theorem storeOutside_remaining (a : Nat) (v : List Byte) (s : State) : (storeOutside a v s).remaining = s.remaining := rfl
@[simp] theorem storeOutside_src (a : Nat) (v : List Byte) (s : State) : (storeOutside a v s).src = s.src := rfl
@[simp] theorem storeOutside_len (a : Nat) (v : List Byte) (s : State) : (storeOutside a v s).len = s.len := rfl
@[simp] theorem storeOutside_dst (a : Nat) (v : List Byte) (s : State) : (storeOutside a v s).dst = s.dst := rfl
@[simp] theorem storeOutside_key (a : Nat) (v : List Byte) (s : State) : (storeOutside a v s).key = s.key := rfl
@[simp] theorem storeOutside_keylen (a : Nat) (v : List Byte) (s : State) : (storeOutside a v s).keylen = s.keylen := rfl
@[simp] theorem storeOutside_rounds (a : Nat) (v : List Byte) (s : State) : (storeOutside a v s).rounds = s.rounds := rfl
@[simp] theorem storeOutside_outlen (a : Nat) (v : List Byte) (s : State) : (storeOutside a v s).outlen = s.outlen := rfl
@[simp] theorem storeOutside_stores (a : Nat) (v : List Byte) (s : State) : (storeOutside a v s).stores =
    if s.status.busy then (a, v.length) :: racedOutputs s.unread (a, v.length) ++ s.stores else s.stores := rfl
@[simp] theorem storeOutside_unread (a : Nat) (v : List Byte) (s : State) : (storeOutside a v s).unread =
    s.unread.map fun e => { e with before := writeBytes e.before a v } := rfl
@[simp] theorem storeOutside_freeCount (a : Nat) (v : List Byte) (s : State) : (storeOutside a v s).freeCount =
    if s.unread = [] then s.freeCount else s.freeCount + 1 := rfl

@[simp] theorem resetBlock_x (s : State) : (resetBlock s).x = .replicate 7 0 := rfl
@[simp] theorem resetBlock_cmd (s : State) : (resetBlock s).cmd = 0 := rfl
@[simp] theorem resetBlock_status (s : State) : (resetBlock s).status = Status.reset := rfl
@[simp] theorem resetBlock_h (s : State) : (resetBlock s).h = .replicate 8 0 := rfl
@[simp] theorem resetBlock_blk (s : State) : (resetBlock s).blk = .replicate 128 0 := rfl
@[simp] theorem resetBlock_w (s : State) : (resetBlock s).w = .replicate 80 0 := rfl
@[simp] theorem resetBlock_k0 (s : State) : (resetBlock s).k0 = .replicate 128 0 := rfl
@[simp] theorem resetBlock_ih (s : State) : (resetBlock s).ih = .replicate 64 0 := rfl
@[simp] theorem resetBlock_u (s : State) : (resetBlock s).u = .replicate 64 0 := rfl
@[simp] theorem resetBlock_t (s : State) : (resetBlock s).t = .replicate 64 0 := rfl
@[simp] theorem resetBlock_mem (s : State) : (resetBlock s).mem = if s.status.busy then overlay s.mem (runningOutput s) (fun a => busyByte s (readByte s.mem a) a) else s.mem := rfl
@[simp] theorem resetBlock_inbox (s : State) : (resetBlock s).inbox = s.inbox := rfl
@[simp] theorem resetBlock_outbox (s : State) : (resetBlock s).outbox = s.outbox := rfl
@[simp] theorem resetBlock_latency (s : State) : (resetBlock s).latency = s.latency := rfl
@[simp] theorem resetBlock_unread (s : State) : (resetBlock s).unread = unreadAfterReset s := rfl
@[simp] theorem resetBlock_remaining (s : State) : (resetBlock s).remaining = 0 := rfl
@[simp] theorem resetBlock_stores (s : State) : (resetBlock s).stores = [] := rfl
@[simp] theorem resetBlock_freeCount (s : State) : (resetBlock s).freeCount = if s.status.busy then s.freeCount + 1 else s.freeCount := rfl

@[simp] theorem statusRejected_busy (c : ErrCode) (st : Status) : (statusRejected c st).busy = st.busy := rfl
@[simp] theorem statusRejected_done (c : ErrCode) (st : Status) : (statusRejected c st).done = false := rfl
@[simp] theorem statusRejected_err (c : ErrCode) (st : Status) : (statusRejected c st).err = true := rfl
@[simp] theorem statusRejected_ecode (c : ErrCode) (st : Status) : (statusRejected c st).ecode = errValue c := rfl
@[simp] theorem statusRejected_wdrop (c : ErrCode) (st : Status) : (statusRejected c st).wdrop = st.wdrop := rfl

@[simp] theorem statusAccepted_busy (st : Status) : (statusAccepted st).busy = true := rfl
@[simp] theorem statusAccepted_done (st : Status) : (statusAccepted st).done = false := rfl
@[simp] theorem statusAccepted_err (st : Status) : (statusAccepted st).err = false := rfl
@[simp] theorem statusAccepted_ecode (st : Status) : (statusAccepted st).ecode = 0 := rfl
@[simp] theorem statusAccepted_wdrop (st : Status) : (statusAccepted st).wdrop = st.wdrop := rfl

@[simp] theorem statusCompleted_busy (st : Status) : (statusCompleted st).busy = false := rfl
@[simp] theorem statusCompleted_done (st : Status) : (statusCompleted st).done = true := rfl
@[simp] theorem statusCompleted_err (st : Status) : (statusCompleted st).err = st.err := rfl
@[simp] theorem statusCompleted_ecode (st : Status) : (statusCompleted st).ecode = st.ecode := rfl
@[simp] theorem statusCompleted_wdrop (st : Status) : (statusCompleted st).wdrop = st.wdrop := rfl

@[simp] theorem statusDropped_busy (st : Status) : (statusDropped st).busy = st.busy := rfl
@[simp] theorem statusDropped_done (st : Status) : (statusDropped st).done = st.done := rfl
@[simp] theorem statusDropped_err (st : Status) : (statusDropped st).err = st.err := rfl
@[simp] theorem statusDropped_ecode (st : Status) : (statusDropped st).ecode = st.ecode := rfl
@[simp] theorem statusDropped_wdrop (st : Status) : (statusDropped st).wdrop = true := rfl

@[simp] theorem statusWritten_busy (v : Word32) (st : Status) : (statusWritten v st).busy = st.busy := by unfold statusWritten; split <;> rfl
@[simp] theorem statusWritten_done (v : Word32) (st : Status) : (statusWritten v st).done = st.done := by unfold statusWritten; split <;> rfl
@[simp] theorem statusWritten_err (v : Word32) (st : Status) : (statusWritten v st).err = st.err := by unfold statusWritten; split <;> rfl
@[simp] theorem statusWritten_ecode (v : Word32) (st : Status) : (statusWritten v st).ecode = st.ecode := by unfold statusWritten; split <;> rfl

end Sys2Proof.Machine
end

