-- ==== Sys2Proof/Laws/Exec.lean ====
section
/-! SUPPORT. What the issue of a command can do, said once; the meaning of every command as that one operation; lengths of what is written. -/

namespace Sys2Proof.Machine

/-- The own effect of an operation under an algorithm, the one its meaning hands to `issueCommand`. -/
def commandEffect (op : Op) (alg : Alg) : State → State :=
  match op with
  | .init => initEffect alg
  | .compress => compressEffect alg
  | .final => finalEffect alg
  | .storeh => storehEffect alg
  | .digest => digestEffect alg
  | .hmac => hmacEffect alg
  | .pbkdf => pbkdfEffect alg
  | .zeroize => zeroizeState

/-- Every meaning is the issue of its command with its own effect. -/
theorem exec_eq_issueCommand (i : Instr) (s : State) : exec i s = issueCommand i.op i.alg (commandEffect i.op i.alg) s := by
  cases i <;> rfl

/-- A command whose checks fail is rejected (R212, R213). -/
theorem issueCommand_of_rejected {op : Op} {alg : Alg} {eff : State → State} {s : State} {c : ErrCode} (h : issueCheck op alg s = some c) :
    issueCommand op alg eff s = .next (reject c s) := by
  simp [issueCommand, h]

/-- A command that passes its checks is accepted, has its effect and completes (R214, R215). -/
theorem issueCommand_of_accepted {op : Op} {alg : Alg} {eff : State → State} {s : State} (h : issueCheck op alg s = none) :
    issueCommand op alg eff s = .next (complete (eff (accept (commandWord op alg) s))) := by
  simp [issueCommand, h]

/-- Everything the issue of a command can do. -/
theorem issueCommand_cases (op : Op) (alg : Alg) (eff : State → State) (s : State) :
    (∃ c, issueCheck op alg s = some c ∧ issueCommand op alg eff s = .next (reject c s)) ∨
    (issueCheck op alg s = none ∧ issueCommand op alg eff s = .next (complete (eff (accept (commandWord op alg) s)))) := by
  cases h : issueCheck op alg s with
  | some c => exact .inl ⟨c, rfl, issueCommand_of_rejected h⟩
  | none => exact .inr ⟨rfl, issueCommand_of_accepted h⟩

/-- Everything the meaning of a command can do: rejection, or the command's own effect between acceptance and completion. -/
theorem exec_cases (i : Instr) (s : State) :
    (∃ c, issueCheck i.op i.alg s = some c ∧ exec i s = .next (reject c s)) ∨
    (issueCheck i.op i.alg s = none ∧ exec i s = .next (complete (commandEffect i.op i.alg (accept (encode i) s)))) := by
  rw [exec_eq_issueCommand]
  exact issueCommand_cases _ _ _ _

theorem exec_of_rejected {i : Instr} {s : State} {c : ErrCode} (h : issueCheck i.op i.alg s = some c) : exec i s = .next (reject c s) := by
  rw [exec_eq_issueCommand, issueCommand_of_rejected h]

theorem exec_of_accepted {i : Instr} {s : State} (h : issueCheck i.op i.alg s = none) :
    exec i s = .next (complete (commandEffect i.op i.alg (accept (encode i) s))) := by
  rw [exec_eq_issueCommand, issueCommand_of_accepted h]; rfl

/-- The checks read the operand registers and nothing else (R213). -/
theorem issueCheck_congr (op : Op) (alg : Alg) {s s' : State} (h : s.x = s'.x) : issueCheck op alg s = issueCheck op alg s' := by
  cases op <;>
    simp [issueCheck, inputRegions, outputRegion, outputMeetsInput, sourceRegion, keyRegion, State.src, State.len, State.dst, State.key, State.keylen,
      State.rounds, State.outlen, h]

/-- No region of a command that passes its checks wraps (R51). -/
theorem outputRegion_fits {op : Op} {alg : Alg} {s : State} (h : issueCheck op alg s = none) :
    (outputRegion op alg s).1 + (outputRegion op alg s).2 ≤ Config.memorySize := by
  unfold issueCheck at h
  split at h
  · simp at h
  · split at h
    · simp at h
    · rename_i hw
      simp only [List.any_append, List.any_cons, List.any_nil, Bool.or_false, Bool.or_eq_true, not_or, regionWraps, decide_eq_true_eq] at hw
      exact Nat.le_of_not_lt hw.2

/-- A region wraps exactly when its end lies beyond the address space (R51). -/
theorem regionWraps_iff (r : Region) : regionWraps r = true ↔ 2 ^ 32 < r.1 + r.2 := by
  unfold regionWraps; exact decide_eq_true_iff

/-- An address lies outside a region exactly when it is below the base or at the end or beyond (R51). -/
theorem inRegion_eq_false_iff (r : Region) (a : Nat) : inRegion r a = false ↔ a < r.1 ∨ r.1 + r.2 ≤ a := by
  simp [inRegion]; omega

/-- Two regions overlap exactly when they share an address (R213). -/
theorem regionsOverlap_iff (r q : Region) : regionsOverlap r q = true ↔ ∃ a, (r.1 ≤ a ∧ a < r.1 + r.2) ∧ (q.1 ≤ a ∧ a < q.1 + q.2) := by
  simp only [regionsOverlap, Bool.and_eq_true, decide_eq_true_eq]
  constructor
  · rintro ⟨⟨⟨a, b⟩, c⟩, d⟩
    exact ⟨max r.1 q.1, by omega, by omega⟩
  · rintro ⟨a, h1, h2⟩
    omega

theorem stBe32_length (v : Word32) : (stBe32 v).length = 4 := rfl
theorem stLe32_length (v : Word32) : (stLe32 v).length = 4 := rfl
theorem stBe64_length (v : Word64) : (stBe64 v).length = 8 := rfl
theorem stLe64_length (v : Word64) : (stLe64 v).length = 8 := rfl

/-- A serialised state has HL bytes (R98). -/
@[simp] theorem stateBytes_length (alg : Alg) (h : Vector Word64 8) : (stateBytes alg h).length = alg.digestBytes := by
  obtain ⟨⟨l⟩, hl⟩ := h
  simp only [List.size_toArray] at hl
  match l, hl with
  | [_, _, _, _, _, _, _, _], _ => cases alg <;> rfl

/-- The length field has LF bytes (R98). -/
@[simp] theorem lengthField_length (alg : Alg) (v : Word64) : (lengthField alg v).length = alg.lengthBytes := by
  cases alg <;> rfl

end Sys2Proof.Machine
end

