-- ==== Sys2Proof/Laws/PerInstr.lean ====
section
/-! SUPPORT. The family CommandWord: every command's word is one the decoder reads as that command, and it is well formed (R75, R76, R79). -/

namespace Sys2Proof.Laws.CommandWord

/-- The word of a command is a legal command word and decodes to the command. -/
def Statement (i : Instr) : Prop := wordWellFormed (encode i) = true ∧ decode (encode i) = some i

theorem initSha1 : Statement .initSha1 := by unfold Statement; decide
theorem initSha256 : Statement .initSha256 := by unfold Statement; decide
theorem initSha512 : Statement .initSha512 := by unfold Statement; decide
theorem initRmd160 : Statement .initRmd160 := by unfold Statement; decide
theorem compressSha1 : Statement .compressSha1 := by unfold Statement; decide
theorem compressSha256 : Statement .compressSha256 := by unfold Statement; decide
theorem compressSha512 : Statement .compressSha512 := by unfold Statement; decide
theorem compressRmd160 : Statement .compressRmd160 := by unfold Statement; decide
theorem finalSha1 : Statement .finalSha1 := by unfold Statement; decide
theorem finalSha256 : Statement .finalSha256 := by unfold Statement; decide
theorem finalSha512 : Statement .finalSha512 := by unfold Statement; decide
theorem finalRmd160 : Statement .finalRmd160 := by unfold Statement; decide
theorem storehSha1 : Statement .storehSha1 := by unfold Statement; decide
theorem storehSha256 : Statement .storehSha256 := by unfold Statement; decide
theorem storehSha512 : Statement .storehSha512 := by unfold Statement; decide
theorem storehRmd160 : Statement .storehRmd160 := by unfold Statement; decide
theorem digestSha1 : Statement .digestSha1 := by unfold Statement; decide
theorem digestSha256 : Statement .digestSha256 := by unfold Statement; decide
theorem digestSha512 : Statement .digestSha512 := by unfold Statement; decide
theorem digestRmd160 : Statement .digestRmd160 := by unfold Statement; decide
theorem hmacSha1 : Statement .hmacSha1 := by unfold Statement; decide
theorem hmacSha256 : Statement .hmacSha256 := by unfold Statement; decide
theorem hmacSha512 : Statement .hmacSha512 := by unfold Statement; decide
theorem hmacRmd160 : Statement .hmacRmd160 := by unfold Statement; decide
theorem pbkdfSha1 : Statement .pbkdfSha1 := by unfold Statement; decide
theorem pbkdfSha256 : Statement .pbkdfSha256 := by unfold Statement; decide
theorem pbkdfSha512 : Statement .pbkdfSha512 := by unfold Statement; decide
theorem pbkdfRmd160 : Statement .pbkdfRmd160 := by unfold Statement; decide
theorem zeroize : Statement .zeroize := by unfold Statement; decide

end Sys2Proof.Laws.CommandWord
end

