-- ==== Sys2Proof/Laws/Races.lean ====
section
/-! SUPPORT. What a store and a load of an agent outside the block can do, said once: with no command unread they are a plain write and read; else what they
may change or show lies in the output regions of the unread commands (R238). -/

namespace Sys2Proof.Machine

/-- Every byte after an overlay: the function's value in the region, the byte as before outside it. -/
theorem readByte_overlay {m : Memory} (hs : m.Pairwise fun c d => c.1 < d.1) (r : Region) (f : Nat → Byte) (a : Nat) :
    readByte (overlay m r f) a = if inRegion r a = true then f a else readByte m a := by
  unfold overlay
  split
  · rename_i h
    simp only [inRegion, Bool.and_eq_true, decide_eq_true_eq] at h
    have hk : a - r.1 < ((List.range r.2).map fun k => f (r.1 + k)).length := by simp; omega
    have := readByte_writeBytes_of_inside hs r.1 _ hk
    rw [Nat.add_sub_cancel' h.1] at this
    simpa [Nat.add_sub_cancel' h.1] using this
  · rename_i h
    rw [Bool.not_eq_true, inRegion_eq_false_iff] at h
    exact readByte_writeBytes_of_outside hs r.1 _ (by simpa using h)

theorem pairwise_overlay {m : Memory} (hs : m.Pairwise fun c d => c.1 < d.1) (r : Region) (f : Nat → Byte) :
    (overlay m r f).Pairwise fun c d => c.1 < d.1 := pairwise_writeBytes hs _ _

/-- An overlay inside the address space keeps the canonical form. -/
theorem wf_overlay {m : Memory} (h : Memory.wf m) (r : Region) (f : Nat → Byte) (hr : r.1 + r.2 ≤ Config.memorySize) : Memory.wf (overlay m r f) :=
  wf_writeBytes h _ _ (by simpa using hr)

/-- Everything that can be noted as unread: what was unread in `t`, or a command that passed its checks, with its own regions and the memory before it. -/
theorem mem_noteUnread {i : Instr} {s t : State} {e : Unread} (h : e ∈ (noteUnread i s t).unread) :
    e ∈ t.unread ∨ (issueCheck i.op i.alg s = none ∧ 0 < e.output.2 ∧
      e = { inputs := inputRegions i.op s, output := outputRegion i.op i.alg s, before := s.mem }) := by
  unfold noteUnread at h
  split at h
  · rename_i hc
    rcases List.mem_cons.1 h with rfl | h
    · exact .inr ⟨hc.1, hc.2, rfl⟩
    · exact .inl h
  · exact .inl h

/-- Reset of an idle block leaves the unread commands as they are. -/
theorem unreadAfterReset_of_idle {s : State} (h : s.status.busy = false) : unreadAfterReset s = s.unread := by simp [unreadAfterReset, h]

/-- Reset in mid-command notes the running command. -/
theorem unreadAfterReset_of_busy {s : State} {i : Instr} (h : s.status.busy = true) (hd : decode s.cmd = some i) :
    unreadAfterReset s = (noteUnread i s s).unread := by simp [unreadAfterReset, h, hd]

/-- Everything that can be unread after a reset: what was unread before, or the abandoned command. -/
theorem mem_unreadAfterReset {s : State} {e : Unread} (h : e ∈ unreadAfterReset s) :
    e ∈ s.unread ∨ ∃ i, s.status.busy = true ∧ decode s.cmd = some i ∧ e ∈ (noteUnread i s s).unread := by
  unfold unreadAfterReset at h
  split at h
  · rename_i hb
    split at h
    · exact .inl h
    · rename_i i hd
      exact .inr ⟨i, hb, hd, h⟩
  · exact .inl h

@[simp] theorem seenByte_nil (n : Nat) (m : Memory) (a : Nat) : seenByte n m [] a = readByte m a := rfl

/-- Everything another agent can see at an address: what memory holds, or an old byte of an unread command's output region. -/
theorem seenByte_cases (n : Nat) (m : Memory) (us : List Unread) (a : Nat) :
    seenByte n m us a = readByte m a ∨ ∃ e ∈ us, inRegion e.output a = true ∧ seenByte n m us a = readByte e.before a := by
  induction us generalizing n with
  | nil => exact .inl rfl
  | cons e es ih =>
    simp only [seenByte]
    split
    · rename_i h
      rw [Bool.and_eq_true] at h
      exact .inr ⟨e, List.mem_cons_self, h.1, rfl⟩
    · obtain h | ⟨e', he, h⟩ := ih (n + 1)
      · exact .inl h
      · exact .inr ⟨e', List.mem_cons_of_mem _ he, h⟩

/-- Everything a stored address can hold: the byte stored, or in an unread command's output region the byte as before. -/
theorem storedByte_cases (s : State) (a : Nat) (b : Byte) :
    storedByte s a b = b ∨ (∃ e ∈ s.unread, inRegion e.output a = true) ∧ storedByte s a b = readByte s.mem a := by
  unfold storedByte
  split
  · rename_i h
    rw [Bool.and_eq_true, List.any_eq_true] at h
    exact .inr ⟨h.1, rfl⟩
  · exact .inl rfl

@[simp] theorem storedBytes_length (s : State) (a : Nat) (v : List Byte) : (storedBytes s a v).length = v.length := by
  induction v generalizing a with
  | nil => rfl
  | cons b v ih => simp [storedBytes, ih]

theorem getElem_storedBytes (s : State) (a : Nat) (v : List Byte) {k : Nat} (hk : k < (storedBytes s a v).length) :
    (storedBytes s a v)[k] = storedByte s (a + k) (v[k]'(by simpa using hk)) := by
  induction v generalizing a k with
  | nil => simp [storedBytes] at hk
  | cons b v ih =>
    cases k with
    | zero => rfl
    | succ k =>
      have hk' : k < (storedBytes s (a + 1) v).length := by simpa [storedBytes] using hk
      simp only [storedBytes, List.getElem_cons_succ]
      rw [ih (a + 1) hk', Nat.add_right_comm, Nat.add_assoc]

/-- Every raced output region is that of an unread command. -/
theorem mem_racedOutputs {us : List Unread} {r q : Region} (h : q ∈ racedOutputs us r) : ∃ e ∈ us, q = e.output := by
  induction us with
  | nil => simp [racedOutputs] at h
  | cons e es ih =>
    simp only [racedOutputs] at h
    have tail : q ∈ racedOutputs es r → ∃ e' ∈ e :: es, q = e'.output := fun h =>
      let ⟨e', he, hq⟩ := ih h
      ⟨e', List.mem_cons_of_mem _ he, hq⟩
    split at h
    · rcases List.mem_cons.1 h with h | h
      · exact ⟨e, List.mem_cons_self, h⟩
      · exact tail h
    · exact tail h

/-- A store that meets no input region of an unread command races none of them. -/
theorem racedOutputs_eq_nil {us : List Unread} {r : Region} (h : ∀ e ∈ us, e.inputs.any (regionsOverlap r) = false) : racedOutputs us r = [] := by
  induction us with
  | nil => rfl
  | cons e es ih =>
    have hes := ih fun e' he => h e' (List.mem_cons_of_mem _ he)
    simp [racedOutputs, hes, h e List.mem_cons_self]

/-- With no command unread a store is the write of its bytes. -/
theorem storedBytes_of_unread_nil {s : State} (h : s.unread = []) (a : Nat) (v : List Byte) : storedBytes s a v = v := by
  induction v generalizing a with
  | nil => rfl
  | cons b v ih => simp [storedBytes, storedByte, h, ih]

/-- With no command unread a store is the write of its bytes, remembered while a command runs. -/
theorem storeOutside_of_unread_nil {s : State} (h : s.unread = []) (a : Nat) (v : List Byte) :
    storeOutside a v s = { s with
      mem := writeBytes s.mem a v
      stores := if s.status.busy then (a, v.length) :: s.stores else s.stores } := by
  simp [storeOutside, storedBytes_of_unread_nil h, h, racedOutputs]

theorem pairwise_foldr_overlay {m : Memory} (hs : m.Pairwise fun c d => c.1 < d.1) (qs : List Region) (f : Nat → Byte) :
    (qs.foldr (fun q m => overlay m q f) m).Pairwise fun c d => c.1 < d.1 := by
  induction qs with
  | nil => exact hs
  | cons q qs ih => exact pairwise_overlay ih q f

/-- Outside all the regions laid over it a memory reads as before. -/
theorem readByte_foldr_overlay_of_outside {m : Memory} (hs : m.Pairwise fun c d => c.1 < d.1) (qs : List Region) (f : Nat → Byte) {a : Nat}
    (h : ∀ q ∈ qs, inRegion q a = false) : readByte (qs.foldr (fun q m => overlay m q f) m) a = readByte m a := by
  induction qs with
  | nil => rfl
  | cons q qs ih =>
    rw [List.foldr_cons, readByte_overlay (pairwise_foldr_overlay hs qs f), h q List.mem_cons_self]
    exact ih fun q' hq => h q' (List.mem_cons_of_mem _ hq)

/-- A store of an outside agent keeps the canonical form (the regions of unread commands lie inside the address space). -/
theorem wf_storeOutside {s : State} (h : Memory.wf s.mem) (hu : ∀ e ∈ s.unread, e.output.1 + e.output.2 ≤ Config.memorySize) (a : Nat) (v : List Byte)
    (hv : a + v.length ≤ Config.memorySize) : Memory.wf (storeOutside a v s).mem := by
  have aux : ∀ qs : List Region, (∀ q ∈ qs, q.1 + q.2 ≤ Config.memorySize) →
      Memory.wf (qs.foldr (fun q m => overlay m q (Config.racedByte s.freeCount)) (writeBytes s.mem a (storedBytes s a v))) := by
    intro qs hq
    induction qs with
    | nil => exact wf_writeBytes h _ _ (by simpa using hv)
    | cons q qs ih => exact wf_overlay (ih fun q' hq' => hq q' (List.mem_cons_of_mem _ hq')) _ _ (hq q List.mem_cons_self)
  refine aux _ fun q hq => ?_
  obtain ⟨e, he, rfl⟩ := mem_racedOutputs hq
  exact hu e he

end Sys2Proof.Machine
end

