-- ==== Sys2Proof/Tests/Slice0.lean ====
section
/-! SUPPORT. Tests on fixed values, each expected value taken from spec/ (the rule or table is named), and for every statement with hypotheses a concrete
case that meets them all. Every test runs at most one step on a small state. -/

namespace Sys2Proof.Tests

open Sys2Proof.Machine Sys2Proof.Statement

set_option maxRecDepth 100000

/-- The `n` bytes of the number `v`, most significant first: a run of hexadecimal digits of the spec as bytes in memory order. -/
def hex (n v : Nat) : List Byte := (List.range n).map fun k => BitVec.ofNat 8 (v >>> (8 * (n - 1 - k)))

/-- The next state of an outcome, if it is one. -/
def nextOf (o : Host.Outcome State Fault Refusal) : Option State :=
  match o with
  | .next t => some t
  | .fault _ => none
  | .refused _ => none

/-- One step with the command word `w` written to CMD, and what `f` sees of the state after it. -/
def runWord {α : Type} (w : Nat) (f : State → α) (s : State) : Option α := (nextOf (step (s.withFetchWord 32 w))).map f

/-- The reset state with the given operand registers and memory. -/
def start (src len dst key keylen rounds outlen : Word32) (m : Memory) : State :=
  { State.reset with x := #v[src, len, dst, key, keylen, rounds, outlen], mem := m }

/-- What a command left: `n` bytes at 0x2000, STATUS, and whether H and BLK are zero. -/
def outputAt (n : Nat) (t : State) : List Byte × Word32 × Bool :=
  (readBytes t.mem 0x2000 n, statusWord t.status, t.h == .replicate 8 0 && t.blk == .replicate 128 0)

/-- "abc" at 0x1000. -/
def abcAt : Memory := [(0x1000, 0x61), (0x1001, 0x62), (0x1002, 0x63)]

/-- "salt" at 0x1000 and "password" at 0x1100. -/
def passwordAndSalt : Memory :=
  [(0x1000, 0x73), (0x1001, 0x61), (0x1002, 0x6c), (0x1003, 0x74), (0x1100, 0x70), (0x1101, 0x61), (0x1102, 0x73), (0x1103, 0x73),
   (0x1104, 0x77), (0x1105, 0x6f), (0x1106, 0x72), (0x1107, 0x64)]

/-- "Hi There" at 0x1000 and 20 bytes 0x0b at 0x1100 (tc1 of spec/95_test_vectors.md 2.5). -/
def hiThere : Memory :=
  writeBytes [] 0x1000 ([0x48, 0x69, 0x20, 0x54, 0x68, 0x65, 0x72, 0x65]) ++ writeBytes [] 0x1100 (List.replicate 20 0x0b)

/-- BLK holding the given bytes from byte 0 on, zero above. -/
def blkOf (b : List Byte) : Vector Byte 128 := Vector.ofFn fun k => b.getD k.val 0

/-- H[i] = 0x1011121314151617 + i * 0x0808080808080808 (R205). -/
def patternH : Vector Word64 8 := Vector.ofFn fun i => 0x1011121314151617 + BitVec.ofNat 64 i.val * 0x0808080808080808

/-! ## Well-formedness: one ill-formed word for each check, which the check refuses (R76) -/

/-- R76 (a): bit 6 set. -/
theorem test_reserved_bit_refused : reservedBitsZero 0x45 = false ∧ wordWellFormed 0x45 = false := by decide
/-- R76 (b): OP = 0. -/
theorem test_op_zero_refused : opNotZero 0x10 = false ∧ wordWellFormed 0x10 = false := by decide
/-- R76 (c): OP = 9 and OP = 15. -/
theorem test_op_reserved_refused : opNotReserved 0x09 = false ∧ opNotReserved 0x3f = false ∧ wordWellFormed 0x09 = false := by decide
/-- R76 (d): ZEROIZE with ALG = 1. -/
theorem test_zeroize_alg_refused : zeroizeAlgZero 0x18 = false ∧ wordWellFormed 0x18 = false := by decide
/-- R75: a legal word passes every check. -/
theorem test_legal_word_accepted : wordWellFormed 0x08 = true ∧ wordWellFormed 0x37 = true := by decide
/-- R36, R50: window accesses of other widths, unaligned or outside, and memory accesses past 2^32. -/
theorem test_ill_formed_accesses_refused :
    (HostAccess.regRead 0x42).wellFormed = false ∧ (HostAccess.regWrite 0x100 0).wellFormed = false ∧
    (HostAccess.regOtherWidth 0 1).wellFormed = false ∧ (HostAccess.memLoad 0xffffffff 2).wellFormed = false ∧
    (HostAccess.memStore 0xffffffff [1, 2]).wellFormed = false ∧ (HostAccess.memStore 0xffffffff [1]).wellFormed = true := by decide

/-! ## Decoding: every command's word written out from the fields of R71 (ZERO, ALG, OP) and the codes of R72, R73 -/

theorem test_decode_init :
    decode 0b00000000000000000000000000_00_0001 = some .initSha1 ∧
    decode 0b00000000000000000000000000_01_0001 = some .initSha256 ∧
    decode 0b00000000000000000000000000_10_0001 = some .initSha512 ∧
    decode 0b00000000000000000000000000_11_0001 = some .initRmd160 := by decide

theorem test_decode_compress :
    decode 0b00000000000000000000000000_00_0010 = some .compressSha1 ∧
    decode 0b00000000000000000000000000_01_0010 = some .compressSha256 ∧
    decode 0b00000000000000000000000000_10_0010 = some .compressSha512 ∧
    decode 0b00000000000000000000000000_11_0010 = some .compressRmd160 := by decide

theorem test_decode_final :
    decode 0b00000000000000000000000000_00_0011 = some .finalSha1 ∧
    decode 0b00000000000000000000000000_01_0011 = some .finalSha256 ∧
    decode 0b00000000000000000000000000_10_0011 = some .finalSha512 ∧
    decode 0b00000000000000000000000000_11_0011 = some .finalRmd160 := by decide

theorem test_decode_storeh :
    decode 0b00000000000000000000000000_00_0100 = some .storehSha1 ∧
    decode 0b00000000000000000000000000_01_0100 = some .storehSha256 ∧
    decode 0b00000000000000000000000000_10_0100 = some .storehSha512 ∧
    decode 0b00000000000000000000000000_11_0100 = some .storehRmd160 := by decide

theorem test_decode_digest :
    decode 0b00000000000000000000000000_00_0101 = some .digestSha1 ∧
    decode 0b00000000000000000000000000_01_0101 = some .digestSha256 ∧
    decode 0b00000000000000000000000000_10_0101 = some .digestSha512 ∧
    decode 0b00000000000000000000000000_11_0101 = some .digestRmd160 := by decide

theorem test_decode_hmac :
    decode 0b00000000000000000000000000_00_0110 = some .hmacSha1 ∧
    decode 0b00000000000000000000000000_01_0110 = some .hmacSha256 ∧
    decode 0b00000000000000000000000000_10_0110 = some .hmacSha512 ∧
    decode 0b00000000000000000000000000_11_0110 = some .hmacRmd160 := by decide

theorem test_decode_pbkdf :
    decode 0b00000000000000000000000000_00_0111 = some .pbkdfSha1 ∧
    decode 0b00000000000000000000000000_01_0111 = some .pbkdfSha256 ∧
    decode 0b00000000000000000000000000_10_0111 = some .pbkdfSha512 ∧
    decode 0b00000000000000000000000000_11_0111 = some .pbkdfRmd160 := by decide

theorem test_decode_zeroize : decode 0b00000000000000000000000000_00_1000 = some .zeroize := by decide

/-- Part 2.1 of spec/95_test_vectors.md, the illegal column. -/
theorem test_decode_illegal :
    [0x00, 0x10, 0x09, 0x3f, 0x18, 0x45, 0x80000005, 0xffffffff].map decode = List.replicate 8 none := by decide

/-- The host's reading of the opcode table: 32 bits per row. -/
theorem test_table_word : decodeTableWord 32 0x26 = some .hmacSha512 ∧ decodeTableWord 32 0x00 = none := by decide

/-! ## The commands, one step each -/

/-- R191: whatever H held is overwritten. -/
theorem test_init_sha1 : runWord 0x01 (fun t => (t.h, statusWord t.status, t.cmd)) { State.reset with h := patternH } =
    some (#v[0x67452301, 0xefcdab89, 0x98badcfe, 0x10325476, 0xc3d2e1f0, 0, 0, 0], 2, 0x01) := by decide

/-- R192: whatever H held is overwritten. -/
theorem test_init_sha256 : runWord 0x11 (fun t => (t.h, statusWord t.status, t.cmd)) { State.reset with h := patternH } =
    some (#v[0x6a09e667, 0xbb67ae85, 0x3c6ef372, 0xa54ff53a, 0x510e527f, 0x9b05688c, 0x1f83d9ab, 0x5be0cd19], 2, 0x11) := by decide

/-- R193: whatever H held is overwritten. -/
theorem test_init_sha512 : runWord 0x21 (fun t => (t.h, statusWord t.status, t.cmd)) { State.reset with h := patternH } =
    some (#v[0x6a09e667f3bcc908, 0xbb67ae8584caa73b, 0x3c6ef372fe94f82b, 0xa54ff53a5f1d36f1,
      0x510e527fade682d1, 0x9b05688c2b3e6c1f, 0x1f83d9abfb41bd6b, 0x5be0cd19137e2179], 2, 0x21) := by decide

/-- R194: whatever H held is overwritten. -/
theorem test_init_rmd160 : runWord 0x31 (fun t => (t.h, statusWord t.status, t.cmd)) { State.reset with h := patternH } =
    some (#v[0x67452301, 0xefcdab89, 0x98badcfe, 0x10325476, 0xc3d2e1f0, 0, 0, 0], 2, 0x31) := by decide

/-- R195, the example "abc"; bits 63:32 of H[0] are ignored, H[5..7] and BLK kept. -/
theorem test_compress_sha1 : runWord 0x02 (fun t => (t.h, t.blk == blkOf abcBlock)) { State.reset with
      blk := blkOf abcBlock, h := #v[0x167452301, 0xefcdab89, 0x98badcfe, 0x10325476, 0xc3d2e1f0, 5, 6, 7] } =
    some (#v[0xa9993e36, 0x4706816a, 0xba3e2571, 0x7850c26c, 0x9cd0d89d, 5, 6, 7], true) := by decide +kernel

/-- R196, the example "abc"; BLK is kept. -/
theorem test_compress_sha256 : runWord 0x12 (fun t => (t.h, t.blk == blkOf abcBlock)) { State.reset with
      blk := blkOf abcBlock, h := #v[0x6a09e667, 0xbb67ae85, 0x3c6ef372, 0xa54ff53a, 0x510e527f, 0x9b05688c, 0x1f83d9ab, 0x5be0cd19] } =
    some (#v[0xba7816bf, 0x8f01cfea, 0x414140de, 0x5dae2223, 0xb00361a3, 0x96177a9c, 0xb410ff61, 0xf20015ad], true) := by decide +kernel

/-- R197, the example "abc"; BLK is kept. -/
theorem test_compress_sha512 : runWord 0x22 (fun t => (t.h, t.blk == blkOf abcBlockLong)) { State.reset with
      blk := blkOf abcBlockLong, h := #v[0x6a09e667f3bcc908, 0xbb67ae8584caa73b, 0x3c6ef372fe94f82b, 0xa54ff53a5f1d36f1,
      0x510e527fade682d1, 0x9b05688c2b3e6c1f, 0x1f83d9abfb41bd6b, 0x5be0cd19137e2179] } =
    some (#v[0xddaf35a193617aba, 0xcc417349ae204131, 0x12e6fa4e89a97ea2, 0x0a9eeee64b55d39a,
      0x2192992a274fc1a8, 0x36ba3c23a3feebbd, 0x454d4423643ce80e, 0x2a9ac94fa54ca49f], true) := by decide +kernel

/-- R198, the example "abc"; bits 63:32 of H[0] are ignored, H[5..7] and BLK kept. -/
theorem test_compress_rmd160 : runWord 0x32 (fun t => (t.h, t.blk == blkOf abcBlockLittle)) { State.reset with
      blk := blkOf abcBlockLittle, h := #v[0x167452301, 0xefcdab89, 0x98badcfe, 0x10325476, 0xc3d2e1f0, 5, 6, 7] } =
    some (#v[0xf708b28e, 0x7a985de0, 0x8e4a049b, 0x87b0c698, 0xfc0b5af1, 5, 6, 7], true) := by decide +kernel

/-- R200: "abc" as the tail of a 67-byte message; the byte after the tail is not read, BLK becomes zero, LEN is kept. -/
theorem test_final_sha1 : runWord 0x03 (fun t => (t.h, t.blk, t.len)) { start 0 67 0 0 0 0 0 [] with
      blk := blkOf [0x61, 0x62, 0x63, 0xff], h := #v[0x167452301, 0xefcdab89, 0x98badcfe, 0x10325476, 0xc3d2e1f0, 5, 6, 7] } =
    some (#v[0x6384a947, 0xfcdec6cc, 0xb95792b6, 0x33d48cf0, 0x5ec05c1e, 5, 6, 7], .replicate 128 0, 67) := by decide +kernel

/-- R201: "abc" as the tail of a 67-byte message; the byte after the tail is not read, BLK becomes zero, LEN is kept. -/
theorem test_final_sha256 : runWord 0x13 (fun t => (t.h, t.blk, t.len)) { start 0 67 0 0 0 0 0 [] with
      blk := blkOf [0x61, 0x62, 0x63, 0xff], h := #v[0x6a09e667, 0xbb67ae85, 0x3c6ef372, 0xa54ff53a, 0x510e527f, 0x9b05688c, 0x1f83d9ab, 0x5be0cd19] } =
    some (#v[0x536d28c7, 0x5fdaec1d, 0x7d2f545c, 0xa952ba8c, 0xed1e566e, 0xf099a969, 0x2a0d91c2, 0xc1ea337b], .replicate 128 0, 67) := by decide +kernel

/-- R202: "abc" as the tail of a 131-byte message; the byte after the tail is not read, BLK becomes zero, LEN is kept. -/
theorem test_final_sha512 : runWord 0x23 (fun t => (t.h, t.blk, t.len)) { start 0 131 0 0 0 0 0 [] with
      blk := blkOf [0x61, 0x62, 0x63, 0xff], h := #v[0x6a09e667f3bcc908, 0xbb67ae8584caa73b, 0x3c6ef372fe94f82b, 0xa54ff53a5f1d36f1,
      0x510e527fade682d1, 0x9b05688c2b3e6c1f, 0x1f83d9abfb41bd6b, 0x5be0cd19137e2179] } =
    some (#v[0xdb3ccc3ceb37ef5f, 0xf4d6c99a458062b9, 0x653c8839b77cfd9b, 0x668e2dfb77f56970,
      0x5a7031f56dde3e20, 0x8d538bbfe00a5e64, 0x2de4a51a4430c57e, 0xe7e212d2d165464c], .replicate 128 0, 131) := by decide +kernel

/-- R203: "abc" as the tail of a 67-byte message; the byte after the tail is not read, BLK becomes zero, LEN is kept. -/
theorem test_final_rmd160 : runWord 0x33 (fun t => (t.h, t.blk, t.len)) { start 0 67 0 0 0 0 0 [] with
      blk := blkOf [0x61, 0x62, 0x63, 0xff], h := #v[0x167452301, 0xefcdab89, 0x98badcfe, 0x10325476, 0xc3d2e1f0, 5, 6, 7] } =
    some (#v[0xbd911762, 0xe5da1000, 0xc081acef, 0x4c9a0dca, 0x9e7285cb, 5, 6, 7], .replicate 128 0, 67) := by decide +kernel

/-- R205 with the pattern of R205; the byte after the output keeps its value. -/
theorem test_storeh_sha1 : runWord 0x04 (fun t => (readBytes t.mem 0x2000 20, readByte t.mem 0x2014, t.h == patternH))
      { start 0 0 0x2000 0 0 0 0 [(0x2014, 0x77)] with h := patternH } =
    some (hex 20 0x141516171c1d1e1f242526272c2d2e2f34353637, 0x77, true) := by decide +kernel

/-- R206 with the pattern of R205; the byte after the output keeps its value. -/
theorem test_storeh_sha256 : runWord 0x14 (fun t => (readBytes t.mem 0x2000 32, readByte t.mem 0x2020, t.h == patternH))
      { start 0 0 0x2000 0 0 0 0 [(0x2020, 0x77)] with h := patternH } =
    some (hex 32 0x141516171c1d1e1f242526272c2d2e2f343536373c3d3e3f444546474c4d4e4f, 0x77, true) := by decide +kernel

/-- R207 with the pattern of R205; the byte after the output keeps its value. -/
theorem test_storeh_sha512 : runWord 0x24 (fun t => (readBytes t.mem 0x2000 64, readByte t.mem 0x2040, t.h == patternH))
      { start 0 0 0x2000 0 0 0 0 [(0x2040, 0x77)] with h := patternH } =
    some (hex 64 0x101112131415161718191a1b1c1d1e1f202122232425262728292a2b2c2d2e2f303132333435363738393a3b3c3d3e3f404142434445464748494a4b4c4d4e4f, 0x77, true) := by decide +kernel

/-- R208 with the pattern of R205; the byte after the output keeps its value. -/
theorem test_storeh_rmd160 : runWord 0x34 (fun t => (readBytes t.mem 0x2000 20, readByte t.mem 0x2014, t.h == patternH))
      { start 0 0 0x2000 0 0 0 0 [(0x2014, 0x77)] with h := patternH } =
    some (hex 20 0x171615141f1e1d1c272625242f2e2d2c37363534, 0x77, true) := by decide +kernel

/-- R160, the message "abc"; H is zero afterwards. -/
theorem test_digest_sha1 : runWord 0x05 (outputAt 20) { start 0x1000 3 0x2000 0 0 0 0 abcAt with h := patternH } =
    some (hex 20 0xa9993e364706816aba3e25717850c26c9cd0d89d, 2, true) := by decide +kernel

/-- R162, the message "abc"; H is zero afterwards. -/
theorem test_digest_sha512 : runWord 0x25 (outputAt 64) { start 0x1000 3 0x2000 0 0 0 0 abcAt with h := patternH } =
    some (hex 64 0xddaf35a193617abacc417349ae20413112e6fa4e89a97ea20a9eeee64b55d39a2192992a274fc1a836ba3c23a3feebbd454d4423643ce80e2a9ac94fa54ca49f, 2, true) := by decide +kernel

/-- R163, the message "abc"; H is zero afterwards. -/
theorem test_digest_rmd160 : runWord 0x35 (outputAt 20) { start 0x1000 3 0x2000 0 0 0 0 abcAt with h := patternH } =
    some (hex 20 0x8eb208f7e05d987a9b044a8e98c6b087f15a0bfc, 2, true) := by decide +kernel

/-- R161 and part 2.4 of spec/95_test_vectors.md: DST = SRC is legal, the digest is that of the bytes before the write. -/
theorem test_digest_sha256_in_place : runWord 0x15 (fun t => readBytes t.mem 0x1000 32) (start 0x1000 3 0x1000 0 0 0 0 abcAt) =
    some (hex 32 0xba7816bf8f01cfea414140de5dae2223b00361a396177a9cb410ff61f20015ad) := by decide +kernel

/-- Part 2.4 of spec/95_test_vectors.md: DIGEST.SHA1 in the reset state hashes the empty message to addresses 0 to 19. -/
theorem test_digest_after_reset : runWord 0x05 (fun t => readBytes t.mem 0 20) State.reset =
    some (hex 20 0xda39a3ee5e6b4b0d3255bfef95601890afd80709) := by decide +kernel

/-- R174, tc1 of spec/95_test_vectors.md 2.5. -/
theorem test_hmac_sha1 : runWord 0x06 (outputAt 20) (start 0x1000 8 0x2000 0x1100 20 0 0 hiThere) =
    some (hex 20 0xb617318655057264e28bc0b6fb378c8ef146be00, 2, true) := by decide +kernel

/-- R175, tc1 of spec/95_test_vectors.md 2.5. -/
theorem test_hmac_sha256 : runWord 0x16 (outputAt 32) (start 0x1000 8 0x2000 0x1100 20 0 0 hiThere) =
    some (hex 32 0xb0344c61d8db38535ca8afceaf0bf12b881dc200c9833da726e9376c2e32cff7, 2, true) := by decide +kernel

/-- R176, tc1 of spec/95_test_vectors.md 2.5. -/
theorem test_hmac_sha512 : runWord 0x26 (outputAt 64) (start 0x1000 8 0x2000 0x1100 20 0 0 hiThere) =
    some (hex 64 0x87aa7cdea5ef619d4ff0b4241a1d6cb02379f4e2ce4ec2787ad0b30545e17cdedaa833b7d6b8a702038b274eaea3f4e4be9d914eeb61f1702e696c203a126854, 2, true) := by decide +kernel

/-- R177, tc1 of spec/95_test_vectors.md 2.5. -/
theorem test_hmac_rmd160 : runWord 0x36 (outputAt 20) (start 0x1000 8 0x2000 0x1100 20 0 0 hiThere) =
    some (hex 20 0x24cb4bd67d20fc1a5d2ed7732dcc39377f0a5668, 2, true) := by decide +kernel

/-- R184, "password" and "salt", ROUNDS = 2, OUTLEN = 20. -/
theorem test_pbkdf_sha1 : runWord 0x07 (outputAt 20) (start 0x1000 4 0x2000 0x1100 8 2 20 passwordAndSalt) =
    some (hex 20 0xea6c014dc72d6f8ccd1ed92ace1d41f0d8de8957, 2, true) := by decide +kernel

/-- R185, "password" and "salt", ROUNDS = 1, OUTLEN = 32. -/
theorem test_pbkdf_sha256 : runWord 0x17 (outputAt 32) (start 0x1000 4 0x2000 0x1100 8 1 32 passwordAndSalt) =
    some (hex 32 0x120fb6cffcf8b32c43e7225256c4f837a86548c92ccc35480805987cb70be17b, 2, true) := by decide +kernel

/-- R186, "password" and "salt", ROUNDS = 1, OUTLEN = 64. -/
theorem test_pbkdf_sha512 : runWord 0x27 (outputAt 64) (start 0x1000 4 0x2000 0x1100 8 1 64 passwordAndSalt) =
    some (hex 64 0x867f70cf1ade02cff3752599a3a53dc4af34c7a669815ae5d513554e1c8cf252c02d470a285a0501bad999bfe943c08f050235d7d68b1da55e63f73b60a57fce, 2, true) := by decide +kernel

/-- R187, "password" and "salt", ROUNDS = 1, OUTLEN = 20. -/
theorem test_pbkdf_rmd160 : runWord 0x37 (outputAt 20) (start 0x1000 4 0x2000 0x1100 8 1 20 passwordAndSalt) =
    some (hex 20 0xb725258b125e0bacb0e2307e34feb16a4d0d6aed, 2, true) := by decide +kernel

/-- R209: H and BLK are zero, the operand registers are kept. -/
theorem test_zeroize : runWord 0x08 (fun t => (t.h, t.blk, t.dst, t.cmd, statusWord t.status))
      { start 0 0 7 0 0 0 0 [] with h := patternH, blk := blkOf [1, 2, 3] } =
    some (.replicate 8 0, .replicate 128 0, 7, 0x08, 0x02) := by decide

/-! ## Rejection (the examples of R224) -/

/-- R224, example 1: the word 0 is rejected and not stored. -/
theorem test_reject_zero_word : runWord 0x00 (fun t => (statusWord t.status, t.cmd)) State.reset = some (0x14, 0) := by decide

/-- R224, example 3: DIGEST.SHA1 with bit 8 set. -/
theorem test_reject_high_bit : runWord 0x105 (fun t => statusWord t.status) State.reset = some 0x14 := by decide

/-- R224, example 5: the message region runs one byte past 2^32; with LEN = 0x10 it ends at the last byte and the command completes. -/
theorem test_region_at_the_top : runWord 0x15 (fun t => statusWord t.status) (start 0xfffffff0 0x11 0x1000 0 0 0 0 []) = some 0x34 ∧
    runWord 0x15 (fun t => statusWord t.status) (start 0xfffffff0 0x10 0x1000 0 0 0 0 []) = some 0x02 := by decide

/-- R224, examples 4 and 7, and R218: ROUNDS = 0; output 0x1004..0x1017 meets the password 0x1000..0x1007; with OUTLEN = 0 nothing overlaps and nothing is
written; with ROUNDS = 0 and a wrapping output region the code is E_ROUNDS. -/
theorem test_pbkdf_checks : runWord 0x07 (fun t => (statusWord t.status, t.mem)) (start 0 0 0 0 0 0 20 []) = some (0x24, []) ∧
    runWord 0x07 (fun t => (statusWord t.status, t.mem)) (start 0x2000 4 0x1004 0x1000 8 1 20 []) = some (0x44, []) ∧
    runWord 0x07 (fun t => (statusWord t.status, t.mem)) (start 0x2000 4 0x1004 0x1000 8 1 0 []) = some (0x02, []) ∧
    runWord 0x07 (fun t => (statusWord t.status, t.mem)) (start 0 0 0xfffffff0 0 0 0 0x20 []) = some (0x24, []) := by decide

/-! ## The register window and the busy period -/

/-- R28: the bytes 61 62 63 80 are placed at BLK[0..3] by a write of 0x80636261 to BLKW[0]. -/
theorem test_blk_lanes : (nextOf (regWrite 0x80 0x80636261 State.reset)).map (fun t => t.blk.toList.take 5) =
    some [0x61, 0x62, 0x63, 0x80, 0x00] := by decide

/-- R27: a write of H3_HI replaces that half only. -/
theorem test_h_half : (nextOf (regWrite 0x5c 0xdeadbeef { State.reset with h := patternH })).map (fun t => t.h[3]) =
    some 0xdeadbeef2c2d2e2f := by decide

/-- R193: after INIT.SHA512 the two halves of H0 read 0xf3bcc908 and 0x6a09e667. -/
theorem test_read_h : runWord 0x21 (fun t => (windowRead (.hLo 0) t, windowRead (.hHi 0) t)) State.reset = some (0xf3bcc908, 0x6a09e667) := by decide

/-- A state in which DIGEST.SHA256 runs with two steps left, `a` the next access (R224, example 8). -/
def busyWith (a : HostAccess) : State :=
  { start 0x1000 3 0x2000 0 0 0 0 abcAt with cmd := 0x15, status := { Status.reset with busy := true }, remaining := 2, inbox := [a] }

/-- R224, example 8: while busy STATUS reads 1 and LEN reads 0. -/
theorem test_busy_reads : (nextOf (step (busyWith (.regRead 0x04)))).map (fun t => t.outbox) = some [.word 1] ∧
    (nextOf (step (busyWith (.regRead 0x0c)))).map (fun t => t.outbox) = some [.word 0] := by decide

/-- R224, example 8: a write while busy is dropped and sets WDROP. -/
theorem test_busy_write : (nextOf (step (busyWith (.regWrite 0x0c 5)))).map (fun t => (t.len, statusWord t.status)) = some (3, 0x101) := by decide

/-- R24: WDROP is cleared by a write of 0x100 to STATUS while idle; R224, example 8. -/
theorem test_clear_wdrop : (nextOf (regWrite 0x04 0x100 { State.reset with status := { Status.reset with done := true, wdrop := true } })).map
    (fun t => statusWord t.status) = some 0x02 := by decide

/-- R232: reset while a command runs leaves the reset state, DONE 0. -/
theorem test_reset_while_busy : (nextOf (step (busyWith .reset))).map (fun t => (statusWord t.status, t.cmd, t.len)) = some (0, 0, 0) := by decide

/-- R231: a state that holds something, reset while idle: registers zero, memory kept. -/
theorem test_reset_while_idle : (nextOf (access .reset { start 1 2 3 4 5 6 7 abcAt with h := patternH })).map (fun t => (t.h, t.dst, t.mem)) =
    some (.replicate 8 0, 0, abcAt) := by decide

/-- A completed DIGEST.SHA256 of "abc" at 0x1000 to 0x2000 whose completion no read of STATUS has shown yet. -/
def unreadDigest : State :=
  { start 0x1000 3 0x2000 0 0 0 0 abcAt with
    status := { Status.reset with done := true }, unread := [{ inputs := [(0x1000, 3)], output := (0x2000, 32), before := abcAt }] }

/-- R238, D20: a completed command is noted with its regions and the memory before it; one without output bytes is not. -/
theorem test_window_opens : runWord 0x04 (fun t => t.unread) (start 0 0 0x2000 0 0 0 0 abcAt) =
      some [{ inputs := [], output := (0x2000, 20), before := abcAt }] ∧
    runWord 0x01 (fun t => t.unread) (start 0 0 0x2000 0 0 0 0 abcAt) = some [] := by decide

/-- R238, R62 (c): a read of STATUS that returns BUSY = 0 ends the window, a read of another register does not. -/
theorem test_window_closes : (nextOf (regRead 0x04 unreadDigest)).map (fun t => t.unread) = some [] ∧
    (nextOf (regRead 0x00 unreadDigest)).map (fun t => t.unread) = some unreadDigest.unread := by decide

/-- R238, R232: a reset in mid-command keeps the abandoned command's window open; a reset of an idle block opens none. -/
theorem test_reset_keeps_window : (nextOf (step (busyWith .reset))).map (fun t => t.unread) =
      some [{ inputs := [(0x1000, 3)], output := (0x2000, 32), before := abcAt }] ∧
    (nextOf (access .reset unreadDigest)).map (fun t => t.unread) = some unreadDigest.unread := by decide

/-- R238 (a): a store to an input byte races the command's output, one beside it does not. -/
theorem test_raced_outputs : racedOutputs unreadDigest.unread (0x1002, 1) = [(0x2000, 32)] ∧ racedOutputs unreadDigest.unread (0x1003, 1) = [] := by
  decide

/-- R238: a store while a command runs is in memory and is remembered. -/
theorem test_busy_store : (nextOf (step (busyWith (.memStore 0x2003 [9])))).map (fun t => (readByte t.mem 0x2003, t.stores)) =
    some (9, [(0x2003, 1)]) := by decide

/-- R36: a window access of another width has no meaning. -/
theorem test_other_width : access (.regOtherWidth 0x40 1) State.reset = .refused .windowAccess := rfl

/-- R50: there is no byte at 2^32. -/
theorem test_absent_address : access (.memLoad 0xffffffff 2) State.reset = .fault .absentAddress := rfl

/-! ## Witnesses: for every statement with hypotheses, a concrete case that meets all of them together -/

/-- IllegalWordIsRejected: the reset state with an illegal word written to CMD, one word for each case of R76 at the ends of its range. -/
theorem witness_illegal_words : illegalWord 0x40 ∧ illegalWord 0xffffffff ∧ illegalWord 0x00 ∧ illegalWord 0x30 ∧ illegalWord 0x09 ∧ illegalWord 0x3f ∧
    illegalWord 0x18 ∧ illegalWord 0x38 ∧
    State.reset.status.busy = false ∧ ∀ w : Word32, ({ State.reset with inbox := [.regWrite 0x00 w] } : State).inbox = .regWrite 0x00 w :: [] :=
  ⟨.inl (by decide), .inl (by decide), .inr (.inl (by decide)), .inr (.inl (by decide)), .inr (.inr (.inl (by decide))), .inr (.inr (.inl (by decide))),
    .inr (.inr (.inr (by decide))), .inr (.inr (.inr (by decide))), by decide, fun _ => rfl⟩

/-- ByteOrderRoundTrips: sequences of 4 and of 8 bytes. -/
theorem witness_byte_sequences : ([1, 2, 3, 4] : List Byte).length = 4 ∧ ([1, 2, 3, 4, 5, 6, 7, 8] : List Byte).length = 8 := by decide

/-- AlgorithmByteOrders and the schedule statements: the first and last index of each range. -/
theorem witness_schedule_indices : (0 < 16 ∧ 15 < 16) ∧ (16 ≤ 16 ∧ 16 < 64) ∧ (16 ≤ 63 ∧ 63 < 64) ∧ (16 ≤ 79 ∧ 79 < 80) := by decide

/-- Sha1ScheduleIsLinear: two blocks of 64 bytes. -/
theorem witness_blocks : abcBlock.length = 64 ∧ (List.replicate 64 (0xff : Byte)).length = 64 := by decide

/-- Two states that differ in bits 63:32 of H and in BLK[64..127] only. -/
def highBits : State := { State.reset with h := .replicate 8 0xffffffff00000000, blk := Vector.ofFn fun k => if k.val < 64 then 0 else 1 }

/-- CompressIgnoresUnreadState: two different states that agree in what is read, and the next states of all three commands. -/
theorem witness_unread_state : State.reset ≠ highBits ∧ (∀ k : Fin 128, k.val < 64 → State.reset.blk[k] = highBits.blk[k]) ∧
    (∀ j : Fin 8, trunc32 State.reset.h[j] = trunc32 highBits.h[j]) ∧
    (∃ t t', exec .compressSha1 State.reset = .next t ∧ exec .compressSha1 highBits = .next t') ∧
    (∃ t t', exec .compressRmd160 State.reset = .next t ∧ exec .compressRmd160 highBits = .next t') ∧
    ∃ t t', exec .compressSha256 State.reset = .next t ∧ exec .compressSha256 highBits = .next t' :=
  ⟨by decide, by decide, by decide, ⟨_, _, rfl, rfl⟩, ⟨_, _, rfl, rfl⟩, ⟨_, _, rfl, rfl⟩⟩

/-- FinalBlocksAreThePaddedTail: tails at the last one-block and the first two-block length of either block size. -/
theorem witness_tails : (List.replicate 55 (0x61 : Byte)).length = 119 % Alg.sha256.blockBytes ∧
    (List.replicate 56 (0x61 : Byte)).length = 56 % Alg.rmd160.blockBytes ∧ (List.replicate 111 (0x61 : Byte)).length = 111 % Alg.sha512.blockBytes ∧
    (List.replicate 112 (0x61 : Byte)).length = 240 % Alg.sha512.blockBytes ∧ ([] : List Byte).length = 64 % Alg.sha1.blockBytes := by decide

/-- MacKeyPreparation: a key of BS + 1 bytes; a key of BS - 1 bytes with one zero byte more. -/
theorem witness_key_lengths : Alg.sha1.blockBytes < (List.replicate 65 (0xaa : Byte)).length ∧
    Alg.sha512.blockBytes < (List.replicate 129 (0xaa : Byte)).length ∧ (List.replicate 63 (0xaa : Byte)).length + 1 ≤ Alg.sha1.blockBytes := by decide

/-- KdfRoundsAccumulate and KdfShorterOutputBeginsLonger: one round; 20 and 25 bytes. -/
theorem witness_rounds_and_lengths : 1 ≤ 1 ∧ 20 ≤ 25 := by decide

/-- UnitSequenceComputesDigest: the four commands of SHA256, the message "abc" and DST = 2^32 - 32 (the last place the digest fits). -/
theorem witness_unit_sequence : Instr.initSha256.op = .init ∧ Instr.compressSha256.op = .compress ∧ Instr.finalSha256.op = .final ∧
    Instr.storehSha256.op = .storeh ∧ Instr.initSha256.alg = .sha256 ∧ Instr.compressSha256.alg = .sha256 ∧ Instr.finalSha256.alg = .sha256 ∧
    Instr.storehSha256.alg = .sha256 ∧ ([0x61, 0x62, 0x63] : List Byte).length < 2 ^ 32 ∧
    (start 0 0 0xffffffe0 0 0 0 0 []).dst.toNat + Alg.sha256.digestBytes ≤ 2 ^ 32 ∧ Memory.wf (start 0 0 0xffffffe0 0 0 0 0 []).mem := by decide

/-- FinalPadsAndCompresses: the words of H a five-word algorithm does not have. -/
theorem witness_unused_words : 5 ≤ (5 : Fin 8).val ∧ 5 ≤ (7 : Fin 8).val := by decide

/-- StorehWritesTheState: DST at the last place where the 20 bytes fit, and one beyond. -/
theorem witness_storeh : Instr.storehSha1.op = .storeh ∧ (start 0 0 0xffffffec 0 0 0 0 []).dst.toNat + Instr.storehSha1.alg.digestBytes ≤ 2 ^ 32 ∧
    2 ^ 32 < (start 0 0 0xffffffed 0 0 0 0 []).dst.toNat + Instr.storehSha1.alg.digestBytes := by decide

/-- DigestWritesTheDigest: a message that ends at the last byte, and the cases one byte beyond of either region. -/
theorem witness_digest : Instr.digestSha256.op = .digest ∧
    (let s := start 0xfffffff0 0x10 0xffffffe0 0 0 0 0 []
     s.src.toNat + s.len.toNat ≤ 2 ^ 32 ∧ s.dst.toNat + Instr.digestSha256.alg.digestBytes ≤ 2 ^ 32) ∧
    (let s := start 0xfffffff0 0x11 0 0 0 0 0 []; 2 ^ 32 < s.src.toNat + s.len.toNat) ∧
    (let s := start 0 0 0xffffffe1 0 0 0 0 []; 2 ^ 32 < s.dst.toNat + Instr.digestSha256.alg.digestBytes) := by decide

/-- HmacWritesTheCode: all three regions at their last place, and each one byte beyond. -/
theorem witness_hmac : Instr.hmacSha512.op = .hmac ∧
    (let s := start 0xfffffff0 0x10 0xffffffc0 0xffffffff 1 0 0 []
     s.src.toNat + s.len.toNat ≤ 2 ^ 32 ∧ s.key.toNat + s.keylen.toNat ≤ 2 ^ 32 ∧ s.dst.toNat + Instr.hmacSha512.alg.digestBytes ≤ 2 ^ 32) ∧
    (let s := start 0xfffffff0 0x11 0 0 0 0 0 []; 2 ^ 32 < s.src.toNat + s.len.toNat) ∧
    (let s := start 0 0 0 0xffffffff 2 0 0 []; 2 ^ 32 < s.key.toNat + s.keylen.toNat) ∧
    (let s := start 0 0 0xffffffc1 0 0 0 0 []; 2 ^ 32 < s.dst.toNat + Instr.hmacSha512.alg.digestBytes) := by decide

/-- Salt 0x2000..0x2003, password 0x1000..0x1007, output of 20 bytes at `dst`, one round (R224, example 7). -/
def kdfAt (dst : Word32) : State := start 0x2000 4 dst 0x1000 8 1 20 []

/-- The output region behind the password touches it only. -/
theorem kdfAt_no_overlap : ¬ outputSharesAddress (kdfAt 0x1008) := by
  rintro ⟨a, h1, h2, h3 | h3⟩ <;> simp [kdfAt, start, State.dst, State.outlen, State.key, State.keylen, State.src, State.len] at h1 h2 h3 <;> omega

/-- With DST = 0x1007 the last byte of the password is shared. -/
theorem kdfAt_overlap : outputSharesAddress (kdfAt 0x1007) := ⟨0x1007, by decide, by decide, .inl (by decide)⟩

/-- PbkdfWritesTheDerivedBytes: regions that only touch; ROUNDS = 0; an output region that ends one byte beyond; regions that share one byte. -/
theorem witness_pbkdf : Instr.pbkdfRmd160.op = .pbkdf ∧
    ((kdfAt 0x1008).rounds ≠ 0 ∧ (kdfAt 0x1008).src.toNat + (kdfAt 0x1008).len.toNat ≤ 2 ^ 32 ∧
      (kdfAt 0x1008).key.toNat + (kdfAt 0x1008).keylen.toNat ≤ 2 ^ 32 ∧ (kdfAt 0x1008).dst.toNat + (kdfAt 0x1008).outlen.toNat ≤ 2 ^ 32 ∧
      ¬ outputSharesAddress (kdfAt 0x1008)) ∧
    State.reset.rounds = 0 ∧
    ((kdfAt 0xffffffed).rounds ≠ 0 ∧ 2 ^ 32 < (kdfAt 0xffffffed).dst.toNat + (kdfAt 0xffffffed).outlen.toNat) ∧
    ((kdfAt 0x1007).rounds ≠ 0 ∧ (kdfAt 0x1007).src.toNat + (kdfAt 0x1007).len.toNat ≤ 2 ^ 32 ∧
      (kdfAt 0x1007).key.toNat + (kdfAt 0x1007).keylen.toNat ≤ 2 ^ 32 ∧ (kdfAt 0x1007).dst.toNat + (kdfAt 0x1007).outlen.toNat ≤ 2 ^ 32 ∧
      outputSharesAddress (kdfAt 0x1007)) :=
  ⟨by decide, ⟨by decide, by decide, by decide, by decide, kdfAt_no_overlap⟩, by decide, by decide, by decide, by decide, by decide, by decide,
    kdfAt_overlap⟩

/-- IssueChecksInOrder: a state for each of its cases, and an illegal word. -/
theorem witness_issue_checks : illegalWord 0x18 ∧ State.reset.latency.headD 0 = 0 ∧
    (Instr.pbkdfSha1.op = .pbkdf ∧ State.reset.rounds = 0) ∧
    (¬ (Instr.pbkdfSha1.op = .pbkdf ∧ (kdfAt 0xffffffed).rounds = 0) ∧ someRegionWraps .pbkdfSha1 (kdfAt 0xffffffed)) ∧
    (¬ (Instr.pbkdfSha1.op = .pbkdf ∧ (kdfAt 0x1007).rounds = 0) ∧ ¬ someRegionWraps .pbkdfSha1 (kdfAt 0x1007) ∧
      (Instr.pbkdfSha1.op = .pbkdf ∧ outputSharesAddress (kdfAt 0x1007))) ∧
    (¬ (Instr.pbkdfSha1.op = .pbkdf ∧ (kdfAt 0x1008).rounds = 0) ∧ ¬ someRegionWraps .pbkdfSha1 (kdfAt 0x1008) ∧
      ¬ (Instr.pbkdfSha1.op = .pbkdf ∧ outputSharesAddress (kdfAt 0x1008))) := by
  refine ⟨.inr (.inr (.inr (by decide))), by decide, by decide, ⟨by decide, by unfold someRegionWraps; decide⟩,
    ⟨by decide, by unfold someRegionWraps; decide, by decide, kdfAt_overlap⟩, by decide, by unfold someRegionWraps; decide, fun h => kdfAt_no_overlap h.2⟩

/-- StatusWordsOfIssue, StatusRegisterBits, HostMemoryAccesses, IdleBlockWaits: the reset state is idle, nothing is unread and nothing is about to come. -/
theorem witness_idle : State.reset.status.busy = false ∧ State.reset.status.wdrop = false ∧ State.reset.inbox = [] ∧ State.reset.unread = [] := by decide

/-- UnreadOperandsHaveNoEffect: FINAL does not read SRC, DIGEST does not read OUTLEN; a next state of either. -/
theorem witness_unread_operand : readsOperand .final 0 = false ∧ readsOperand .digest 6 = false ∧
    (∃ t, exec .finalSha1 State.reset = .next t) ∧ ∃ t, exec .digestSha1 State.reset = .next t :=
  ⟨by decide, by decide, ⟨_, rfl⟩, ⟨_, rfl⟩⟩

/-- WhichCommandZeroesWhat: commands of each kind that were not rejected. -/
theorem witness_not_rejected : (∃ t, exec .initSha1 State.reset = .next t ∧ t.status.err = false) ∧
    (∃ t, exec .compressRmd160 State.reset = .next t ∧ t.status.err = false) ∧ (∃ t, exec .finalSha512 State.reset = .next t ∧ t.status.err = false) ∧
    (∃ t, exec .storehSha256 State.reset = .next t ∧ t.status.err = false) ∧ (∃ t, exec .digestSha1 State.reset = .next t ∧ t.status.err = false) ∧
    ∃ t, exec .zeroize State.reset = .next t ∧ t.status.err = false :=
  ⟨⟨_, rfl, rfl⟩, ⟨_, rfl, rfl⟩, ⟨_, rfl, rfl⟩, ⟨_, rfl, rfl⟩, ⟨_, rfl, rfl⟩, ⟨_, rfl, rfl⟩⟩

/-- MemWriteThenRead, MemoryFormIsCanonical: a memory in canonical form, a write that ends at the last byte, addresses on both sides of it. -/
theorem witness_memory : Memory.wf abcAt ∧ 0xfffffffe + ([1, 2] : List Byte).length ≤ Config.memorySize ∧ 1 < ([1, 2] : List Byte).length ∧
    0xfffffffd < 0xfffffffe ∧ (∀ a, readByte abcAt a = readByte abcAt a) :=
  ⟨by decide, by decide, by decide, by decide, fun _ => rfl⟩

/-- StoringCommandsFrame: STOREH and DIGEST accepted, STOREH rejected (DST one too high), in a state with canonical memory. -/
theorem witness_storing : Instr.storehSha1.op = .storeh ∧ Instr.digestSha1.op = .digest ∧ Memory.wf abcAt ∧
    (∃ t, exec .storehSha1 (start 0 0 0xffffffec 0 0 0 0 abcAt) = .next t ∧ t.status.err = false) ∧
    (∃ t, exec .digestSha1 (start 0x1000 3 0x1000 0 0 0 0 abcAt) = .next t ∧ t.status.err = false) ∧
    (∃ t, exec .storehSha1 (start 0 0 0xffffffed 0 0 0 0 abcAt) = .next t ∧ t.status.err = true) ∧
    inRegion (outputRegion .storeh .sha1 (start 0 0 0x2000 0 0 0 0 abcAt)) 0x2014 = false :=
  ⟨by decide, by decide, by decide, ⟨_, rfl, rfl⟩, ⟨_, rfl, rfl⟩, ⟨_, rfl, rfl⟩, by decide⟩

/-- RegisterCommandsLeaveMemory: FINAL has a next state. -/
theorem witness_register_command : Instr.finalSha1.op = .final ∧ ∃ t, exec .finalSha1 State.reset = .next t := ⟨by decide, ⟨_, rfl⟩⟩

/-- RegReadReturns, RegWriteEffects, WriteThenReadBack, BusyWindow: the first and last offset of every range of the window. -/
theorem witness_offsets : ∀ off ∈ [0x00, 0x04, 0x08, 0x20, 0x24, 0x3c, 0x40, 0x7c, 0x80, 0xfc], off < 0x100 ∧ off % 4 = 0 := by decide

/-- WriteThenReadBack: writes at the ends of the writable ranges answer a next state. -/
theorem witness_writes : ∀ off ∈ [0x08, 0x20, 0x40, 0x7c, 0x80, 0xfc], ((0x08 ≤ off ∧ off ≤ 0x20) ∨ 0x40 ≤ off) ∧
    (nextOf (regWrite off 0xdeadbeef State.reset)).isSome = true := by decide

/-- OtherAccessesRefused: an unaligned offset, the first offset beyond the window, widths below and above 4 bytes. -/
theorem witness_bad_offsets : 0x42 % 4 ≠ 0 ∧ 0x100 ≤ 0x100 ∧ 3 ≠ 4 ∧ 8 ≠ 4 := by decide

/-- HostMemoryAccesses: a running command with none unread, an access that ends at the last byte and one that ends beyond it. -/
theorem witness_host_accesses : (busyWith .reset).status.busy = true ∧ (busyWith .reset).unread = [] ∧
    0xffffffff + ([1] : List Byte).length ≤ 2 ^ 32 ∧ 2 ^ 32 < 0xffffffff + ([1, 2] : List Byte).length ∧
    0xffffffff + 1 ≤ 2 ^ 32 ∧ 2 ^ 32 < 0xffffffff + 2 := by decide

/-- The reset state with INIT.SHA256 written to CMD next, and the given durations. -/
def issuing (latency : List Nat) : State := { State.reset with inbox := [.regWrite 0x00 0x11], latency := latency }

/-- StepRunsTheCommandWritten: duration 0. -/
theorem witness_step_runs : (issuing []).status.busy = false ∧ (issuing []).inbox = .regWrite 0x00 0x11 :: [] ∧ (issuing []).latency.headD 0 = 0 ∧
    decode 0x11 = some .initSha256 ∧ 0x11 < 2 ^ 32 ∧ decodeTableWord 32 0x11 = some .initSha256 := by decide

/-- AcceptanceStartsTheBusyPeriod: duration 1. -/
theorem witness_acceptance : (issuing [1]).status.busy = false ∧ (issuing [1]).inbox = .regWrite 0x00 0x11 :: [] ∧ (issuing [1]).latency = (0 + 1) :: [] ∧
    decode 0x11 = some .initSha256 ∧ issueCheck Instr.initSha256.op Instr.initSha256.alg (issuing [1]) = none := by decide

/-- BusyWindow: a running command with a write, a read and a read of STATUS to come. -/
theorem witness_busy_window : (busyWith (.regRead 0x04)).status.busy = true ∧ (busyWith (.regRead 0x04)).remaining = 1 + 1 ∧
    (busyWith (.regWrite 0xfc 1)).inbox = .regWrite 0xfc 1 :: [] ∧ (busyWith (.regRead 0x00)).inbox = .regRead 0x00 :: [] ∧
    (busyWith (.regRead 0x04)).inbox = .regRead 0x04 :: [] ∧ 0x00 ≠ 0x04 := by decide

/-- The reset state is good. -/
theorem reset_good : State.reset.Good := ⟨by decide, by simp [State.scratchZero, State.reset], by decide, by decide, by decide, by decide, by decide⟩

/-- DelayedCommandEqualsImmediate, StepKeepsGood, ReachableStatusValues: a good idle state, and a next state. -/
theorem witness_good : State.reset.Good ∧ State.reset.status.busy = false ∧ decode 0x15 = some .digestSha256 ∧
    ∃ t, step (State.reset.withFetchWord 32 0x15) = .next t := ⟨reset_good, by decide, by decide, ⟨_, rfl⟩⟩

/-- A good state in which DIGEST.SHA256 runs, a store of another agent to come. -/
theorem busy_good : (busyWith (.memStore 0x2000 [1])).Good := ⟨by decide, by simp [State.scratchZero, busyWith, start, State.reset], by decide, by decide, by decide, by decide, by decide⟩

/-- RunningCommandCompletes, SafeStatesNeverStop: a safe state in which a command runs. -/
theorem witness_running : (busyWith (.memStore 0x2000 [1])).Safe ∧ (busyWith (.memStore 0x2000 [1])).status.busy = true ∧
    HostAccess.reset ∉ (busyWith (.memStore 0x2000 [1])).inbox := ⟨⟨busy_good, by decide⟩, by decide, by decide⟩

/-- STOREH.SHA1 to 0x2000 about to complete, another agent having stored to 0x2003. -/
def raced : State :=
  { start 0 0 0x2000 0 0 0 0 [(0x2003, 9)] with cmd := 0x04, status := { Status.reset with busy := true }, stores := [(0x2003, 1)] }

/-- RacesStayInTheOutputRegion: a race on one byte of the output region, no input region raced, a byte outside and a byte not stored to. -/
theorem witness_race : Memory.wf raced.mem ∧ decode raced.cmd = some .storehSha1 ∧ (∃ u, exec .storehSha1 raced = .next u) ∧
    (∃ t, completeRunning raced = .next t) ∧ inRegion (outputRegion .storeh .sha1 raced) 0x2014 = false ∧ inputRaced .storehSha1 raced = false ∧
    storedMeanwhile raced 0x2003 = true ∧ storedMeanwhile raced 0x2004 = false :=
  ⟨by decide, by decide, ⟨_, rfl⟩, ⟨_, rfl⟩, by decide, by decide, by decide, by decide⟩

/-- EarlyReadShowsOldOrNew, ResetAtAnyTime: a running command, no store of another agent so far, a load that ends at the last byte; and one with a racing
store: an address at the end of its output region and the one after it. -/
theorem witness_early_read : Memory.wf (busyWith .reset).mem ∧ (busyWith .reset).status.busy = true ∧ (busyWith .reset).stores = [] ∧
    decode (busyWith .reset).cmd = some .digestSha256 ∧ (∃ u, exec .digestSha256 (busyWith .reset) = .next u) ∧ 0xffffffff + 1 ≤ 2 ^ 32 ∧
    inRegion (outputRegion .digest .sha256 (busyWith .reset)) 0x2000 = true ∧ State.reset.status.busy = false ∧ decode State.reset.cmd = none ∧
    (raced.status.busy = true ∧ raced.stores ≠ [] ∧ (∃ u, exec .storehSha1 raced = .next u) ∧
      inRegion (outputRegion .storeh .sha1 raced) 0x2013 = true ∧ inRegion (outputRegion .storeh .sha1 raced) 0x2014 = false ∧
      ∀ e ∈ raced.unread, inRegion e.output 0x2014 = false) :=
  ⟨by decide, by decide, by decide, by decide, ⟨_, rfl⟩, by decide, by decide, by decide, by decide, by decide, by decide, ⟨_, rfl⟩, by decide, by decide, by decide⟩

/-- RegionsStayTheBlocksUntilStatusIsRead: one unread command, addresses at both ends of its output region and beside it, a store that meets its input
region, one beside it, and the next states of both. -/
theorem witness_unread : unreadDigest.status.busy = false ∧ Memory.wf unreadDigest.mem ∧ 0xffffffff + 1 ≤ 2 ^ 32 ∧
    unreadDigest.unread = [{ inputs := [(0x1000, 3)], output := (0x2000, 32), before := abcAt }] ∧ 0x201f < 2 ^ 32 ∧
    inRegion (0x2000, 32) 0x2000 = true ∧ inRegion (0x2000, 32) 0x201f = true ∧ inRegion (0x2000, 32) 0x2020 = false ∧
    (∀ e ∈ unreadDigest.unread, inRegion e.output 0x2020 = false) ∧
    (∀ e ∈ unreadDigest.unread, ∀ q ∈ e.inputs, regionsOverlap (0x2000, 1) q = false) ∧
    (∃ q ∈ ([(0x1000, 3)] : List (Nat × Nat)), regionsOverlap (0x1002, 1) q = true) ∧
    (∃ t, memStore 0x2000 [9] unreadDigest = .next t) ∧ ∃ t, memStore 0x1002 [9] unreadDigest = .next t :=
  ⟨by decide, by decide, by decide, by decide, by decide, by decide, by decide, by decide, by decide, by decide, ⟨(0x1000, 3), by decide, by decide⟩,
    ⟨_, rfl⟩, ⟨_, rfl⟩⟩

end Sys2Proof.Tests
end

section
/-! The lengths of what the commands write: every code and digest has HL bytes, a derived key as many as asked for (R158, R171, R182). -/

namespace Sys2Proof.Machine

@[simp] theorem digest_length (alg : Alg) (m : List Byte) : (digest alg m).length = alg.digestBytes := stateBytes_length _ _

@[simp] theorem macBytes_length (alg : Alg) (key data : List Byte) : (macBytes alg key data).length = alg.digestBytes := digest_length _ _

theorem kdfIterate_length (alg : Alg) (pw : List Byte) (n : Nat) {u t : List Byte} (ht : t.length = alg.digestBytes) :
    (kdfIterate alg pw n u t).length = alg.digestBytes := by
  induction n generalizing u t with
  | zero => exact ht
  | succ n ih => exact ih (by simp [xorBytes, ht])

@[simp] theorem kdfBlock_length (alg : Alg) (pw salt : List Byte) (rounds i : Nat) :
    (kdfBlock alg pw salt rounds i).length = alg.digestBytes :=
  kdfIterate_length alg pw _ (macBytes_length _ _ _)

/-- The first `n` output blocks, the last one truncated, have `n * HL` bytes or, where that is less, `outlen` (R182). -/
theorem sum_truncated_blocks (hl outlen n : Nat) :
    ((List.range n).map fun j => min hl (outlen - j * hl)).sum = min (n * hl) outlen := by
  induction n with
  | zero => simp
  | succ n ih =>
    rw [List.range_succ, List.map_append, List.sum_append, ih, Nat.succ_mul]
    simp
    omega

theorem digestBytes_pos (alg : Alg) : 0 < alg.digestBytes := by cases alg <;> decide

theorem le_ceilDiv_mul (a : Nat) {b : Nat} (hb : 0 < b) : a ≤ ceilDiv a b * b := by
  have hlt : a + b - 1 < b * ((a + b - 1) / b + 1) := Nat.lt_mul_div_succ _ hb
  rw [Nat.mul_succ, Nat.mul_comm] at hlt
  unfold ceilDiv
  omega

@[simp] theorem kdfBytes_length (alg : Alg) (pw salt : List Byte) (rounds outlen : Nat) :
    (kdfBytes alg pw salt rounds outlen).length = outlen := by
  have hsum := sum_truncated_blocks alg.digestBytes outlen (ceilDiv outlen alg.digestBytes)
  rw [Nat.min_eq_right (le_ceilDiv_mul outlen (digestBytes_pos alg))] at hsum
  simp only [kdfBytes, List.length_flatMap, List.length_take, kdfBlock_length]
  refine .trans (congrArg List.sum (List.map_congr_left fun j _ => ?_)) hsum
  exact Nat.min_eq_left (Nat.min_le_left _ _)

end Sys2Proof.Machine
end

section
/-! What the effect of a command changes and what it keeps, over the operation: only the block's registers, the scratch and the bytes of the output region. -/

namespace Sys2Proof.Machine

variable (op : Op) (alg : Alg) (s : State)

@[simp] theorem commandEffect_x : (commandEffect op alg s).x = s.x := by cases op <;> rfl
@[simp] theorem commandEffect_cmd : (commandEffect op alg s).cmd = s.cmd := by cases op <;> rfl
@[simp] theorem commandEffect_status : (commandEffect op alg s).status = s.status := by cases op <;> rfl
@[simp] theorem commandEffect_inbox : (commandEffect op alg s).inbox = s.inbox := by cases op <;> rfl
@[simp] theorem commandEffect_outbox : (commandEffect op alg s).outbox = s.outbox := by cases op <;> rfl
@[simp] theorem commandEffect_latency : (commandEffect op alg s).latency = s.latency := by cases op <;> rfl
@[simp] theorem commandEffect_remaining : (commandEffect op alg s).remaining = s.remaining := by cases op <;> rfl
@[simp] theorem commandEffect_stores : (commandEffect op alg s).stores = s.stores := by cases op <;> rfl
@[simp] theorem commandEffect_unread : (commandEffect op alg s).unread = s.unread := by cases op <;> rfl
@[simp] theorem commandEffect_freeCount : (commandEffect op alg s).freeCount = s.freeCount := by cases op <;> rfl

/-- A command writes exactly its output region (R51); one that stores nothing has an empty one. -/
theorem commandEffect_mem : ∃ v : List Byte, v.length = (outputRegion op alg s).2 ∧
    (commandEffect op alg s).mem = writeBytes s.mem (outputRegion op alg s).1 v := by
  cases op with
  | init | compress | final | zeroize => exact ⟨[], rfl, rfl⟩
  | storeh => exact ⟨stateBytes alg s.h, stateBytes_length _ _, rfl⟩
  | digest => exact ⟨digestOutput alg s, digest_length _ _, rfl⟩
  | hmac => exact ⟨hmacOutput alg s, macBytes_length _ _ _, rfl⟩
  | pbkdf => exact ⟨pbkdfOutput alg s, kdfBytes_length _ _ _ _ _, rfl⟩

end Sys2Proof.Machine
end

section
/-! The parts of `State.Good`, each said once in the form its proofs use, and what keeps them. -/

namespace Sys2Proof.Machine

variable {s t : State} {i : Instr}

theorem State.scratchZero_iff : s.scratchZero = true ↔
    s.w = .replicate 80 0 ∧ s.k0 = .replicate 128 0 ∧ s.ih = .replicate 64 0 ∧ s.u = .replicate 64 0 ∧ s.t = .replicate 64 0 := by
  simp [State.scratchZero, and_assoc]

/-- No effect leaves anything in the hidden scratch (R29, R30). -/
theorem scratchZero_commandEffect (op : Op) (alg : Alg) (h : s.scratchZero = true) : (commandEffect op alg s).scratchZero = true := by
  rw [State.scratchZero_iff] at h ⊢
  cases op with
  | init | storeh => exact h
  | compress | final => exact ⟨rfl, h.2⟩
  | digest | hmac | pbkdf | zeroize => exact ⟨rfl, rfl, rfl, rfl, rfl⟩

/-- An effect writes inside the address space where the command has passed its checks, and so keeps the canonical form. -/
theorem wf_commandEffect (op : Op) (alg : Alg) (h : Memory.wf s.mem) (hc : issueCheck op alg s = none) :
    Memory.wf (commandEffect op alg s).mem := by
  obtain ⟨v, hv, hmem⟩ := commandEffect_mem op alg s
  rw [hmem]
  exact wf_writeBytes h _ _ (hv ▸ outputRegion_fits hc)

theorem decode_encode (i : Instr) : decode (encode i) = some i := by cases i <;> decide

theorem State.runningLegal_of_idle (h : s.status.busy = false) : s.runningLegal = true := by simp [State.runningLegal, h]

theorem State.runningLegal_of_decode (hd : decode s.cmd = some i) (hc : issueCheck i.op i.alg s = none) : s.runningLegal = true := by
  simp [State.runningLegal, hd, hc]

/-- In a good state the running command is in CMD and has passed its checks (R31, R214). -/
theorem State.Good.running (hs : s.Good) (hb : s.status.busy = true) : ∃ i, decode s.cmd = some i ∧ issueCheck i.op i.alg s = none := by
  have h := hs.runningLegal
  unfold State.runningLegal at h
  cases hd : decode s.cmd with
  | none => simp [hb, hd] at h
  | some i => exact ⟨i, rfl, by simpa [hb, hd] using h⟩

theorem State.Good.remaining_of_idle (hs : s.Good) (hb : s.status.busy = false) : s.remaining = 0 := by
  have h := hs.idleQuiet
  simp only [State.idleQuiet, hb, Bool.false_or, Bool.and_eq_true, beq_iff_eq] at h
  exact h.1

theorem State.Good.stores_of_idle (hs : s.Good) (hb : s.status.busy = false) : s.stores = [] := by
  have h := hs.idleQuiet
  simp only [State.idleQuiet, hb, Bool.false_or, Bool.and_eq_true, beq_iff_eq] at h
  exact h.2

/-- `State.Good` says nothing of H, BLK, the accesses to come, the replies, the durations and the free-value counter. -/
theorem State.Good.of_unmentioned (hs : s.Good) (h : Vector Word64 8) (blk : Vector Byte 128) (inbox : List HostAccess) (outbox : List HostReply)
    (latency : List Nat) (freeCount : Nat) :
    { s with h := h, blk := blk, inbox := inbox, outbox := outbox, latency := latency, freeCount := freeCount : State }.Good :=
  ⟨hs.statusLegal, hs.scratchZero, hs.cmdLegal, hs.runningLegal, hs.idleQuiet, hs.memory, hs.unreadLegal⟩

/-- A step of the running command's duration keeps the invariants (R215). -/
theorem State.Good.with_remaining (hs : s.Good) (hb : s.status.busy = true) (d : Nat) : { s with remaining := d : State }.Good :=
  ⟨hs.statusLegal, hs.scratchZero, hs.cmdLegal, hs.runningLegal, by simp [State.idleQuiet, hb], hs.memory, hs.unreadLegal⟩

/-- While idle the operand registers are free (R34). -/
theorem State.Good.with_x (hs : s.Good) (hb : s.status.busy = false) (x : Vector Word32 7) : { s with x := x : State }.Good :=
  ⟨hs.statusLegal, hs.scratchZero, hs.cmdLegal, State.runningLegal_of_idle hb, hs.idleQuiet, hs.memory, hs.unreadLegal⟩

/-- WDROP is in none of the invariants of STATUS (R24). -/
theorem State.Good.with_wdrop (hs : s.Good) (b : Bool) : { s with status := { s.status with wdrop := b } : State }.Good :=
  ⟨hs.statusLegal, hs.scratchZero, hs.cmdLegal, hs.runningLegal, hs.idleQuiet, hs.memory, hs.unreadLegal⟩

theorem State.Good.with_unread_nil (hs : s.Good) : { s with unread := [] : State }.Good :=
  ⟨hs.statusLegal, hs.scratchZero, hs.cmdLegal, hs.runningLegal, hs.idleQuiet, hs.memory, by simp⟩

end Sys2Proof.Machine
end

section
/-! Every operation a step is made of keeps `State.Good`. -/

namespace Sys2Proof.Machine

variable {s t : State} {i : Instr}

/-- A write to STATUS can clear WDROP and nothing else (R24). -/
theorem statusWritten_eq (v : Word32) (st : Status) : statusWritten v st = { st with wdrop := st.wdrop && !v.getLsbD 8 } := by
  unfold statusWritten
  split <;> simp_all

theorem legal_statusRejected (c : ErrCode) {st : Status} (hb : st.busy = false) : (statusRejected c st).legal = true := by
  cases c <;> simp [Status.legal, hb, errValue]

theorem legal_statusAccepted (st : Status) : (statusAccepted st).legal = true := by simp [Status.legal]

theorem legal_statusCompleted_accepted (st : Status) : (statusCompleted (statusAccepted st)).legal = true := by simp [Status.legal]

/-- Rejection of a word an idle block is given (R212). -/
theorem State.Good.of_reject (hs : s.Good) (hb : s.status.busy = false) (c : ErrCode) : (reject c s).Good :=
  ⟨legal_statusRejected c hb, hs.scratchZero, hs.cmdLegal, State.runningLegal_of_idle hb, hs.idleQuiet, hs.memory, hs.unreadLegal⟩

/-- Acceptance of a command that passed its checks (R214). -/
theorem State.Good.of_acceptFor (hs : s.Good) {w : Word32} (hd : decode w = some i) (hc : issueCheck i.op i.alg s = none) (d : Nat) :
    (acceptFor d w s).Good where
  statusLegal := legal_statusAccepted _
  scratchZero := hs.scratchZero
  cmdLegal := by simp [State.cmdLegal, hd]
  runningLegal := State.runningLegal_of_decode hd (by rwa [issueCheck_congr _ _ (acceptFor_x d w s)])
  idleQuiet := rfl
  memory := hs.memory
  unreadLegal := hs.unreadLegal

/-- The state an accepted command leaves when it has completed (R214, R215). -/
def effectDone (i : Instr) (s : State) : State := complete (commandEffect i.op i.alg (accept (encode i) s))

theorem exec_eq_effectDone (h : issueCheck i.op i.alg s = none) : exec i s = .next (effectDone i s) := exec_of_accepted h

section
variable (i : Instr) (s t : State)

@[simp] theorem effectDone_x : (effectDone i s).x = s.x := by simp [effectDone]
@[simp] theorem effectDone_cmd : (effectDone i s).cmd = encode i := by simp [effectDone]
@[simp] theorem effectDone_status : (effectDone i s).status = statusCompleted (statusAccepted s.status) := by simp [effectDone]
@[simp] theorem effectDone_inbox : (effectDone i s).inbox = s.inbox := by simp [effectDone]
@[simp] theorem effectDone_outbox : (effectDone i s).outbox = s.outbox := by simp [effectDone]
@[simp] theorem effectDone_latency : (effectDone i s).latency = s.latency := by simp [effectDone]
@[simp] theorem effectDone_remaining : (effectDone i s).remaining = s.remaining := by simp [effectDone]
@[simp] theorem effectDone_stores : (effectDone i s).stores = s.stores := by simp [effectDone]
@[simp] theorem effectDone_unread : (effectDone i s).unread = s.unread := by simp [effectDone]
@[simp] theorem effectDone_freeCount : (effectDone i s).freeCount = s.freeCount := by simp [effectDone]

theorem scratchZero_effectDone (h : s.scratchZero = true) : (effectDone i s).scratchZero = true :=
  scratchZero_commandEffect i.op i.alg (s := accept (encode i) s) h

theorem wf_effectDone (h : Memory.wf s.mem) (hc : issueCheck i.op i.alg s = none) : Memory.wf (effectDone i s).mem :=
  wf_commandEffect i.op i.alg (s := accept (encode i) s) h (by rwa [issueCheck_congr _ _ (accept_x _ s)])

@[simp] theorem settle_cmd : (settle i s t).cmd = t.cmd := by unfold settle; split <;> rfl
@[simp] theorem settle_status : (settle i s t).status = t.status := by unfold settle; split <;> rfl
@[simp] theorem settle_unread : (settle i s t).unread = t.unread := by unfold settle; split <;> rfl
@[simp] theorem settle_remaining : (settle i s t).remaining = 0 := by unfold settle; split <;> rfl
@[simp] theorem settle_scratchZero : (settle i s t).scratchZero = t.scratchZero := by unfold settle; split <;> rfl

/-- Completion clears the record of the stores of the busy period. -/
theorem settle_stores (h : t.stores = s.stores) : (settle i s t).stores = [] := by
  unfold settle
  split
  case isTrue hnil => exact h.trans hnil
  case isFalse => rfl

/-- Settling the races writes in the output region only, which lies inside the address space (R238). -/
theorem wf_settle (h : Memory.wf t.mem) (hc : issueCheck i.op i.alg s = none) : Memory.wf (settle i s t).mem := by
  unfold settle
  split
  case isTrue => exact h
  case isFalse => exact wf_overlay h _ _ (outputRegion_fits hc)

/-- With no store and no step of a busy period behind it there is nothing to settle. -/
theorem settle_of_quiet (hst : s.stores = []) (hr : t.remaining = 0) : settle i s t = t := by
  rw [settle, if_pos hst, ← hr]

end

/-- Completion with its races settled (R215, R238). -/
theorem State.Good.of_settle_effectDone (hs : s.Good) (hc : issueCheck i.op i.alg s = none) : (settle i s (effectDone i s)).Good where
  statusLegal := by simp [legal_statusCompleted_accepted]
  scratchZero := by simp [scratchZero_effectDone i s hs.scratchZero]
  cmdLegal := by simp [State.cmdLegal, decode_encode]
  runningLegal := State.runningLegal_of_idle (by simp)
  idleQuiet := by simp [State.idleQuiet, settle_stores]
  memory := wf_settle i s _ (wf_effectDone i s hs.memory hc) hc
  unreadLegal := by simpa using hs.unreadLegal

/-- The meaning of a command, issued while the block is idle. -/
theorem State.Good.of_exec (hs : s.Good) (hb : s.status.busy = false) (h : exec i s = .next t) : t.Good := by
  obtain ⟨c, -, he⟩ | ⟨hc, -⟩ := exec_cases i s
  · obtain rfl : reject c s = t := by simpa [he] using h
    exact hs.of_reject hb c
  · obtain rfl : effectDone i s = t := by simpa [exec_eq_effectDone hc] using h
    rw [← settle_of_quiet i s (effectDone i s) (hs.stores_of_idle hb) (by simpa using hs.remaining_of_idle hb)]
    exact hs.of_settle_effectDone hc

/-- The regions noted as unread are those of a command that passed its checks (R238). -/
theorem State.Good.of_noteUnread (hs : s.Good) (ht : t.Good) : (noteUnread i s t).Good where
  statusLegal := by simp [ht.statusLegal]
  scratchZero := by rw [State.scratchZero_iff]; simpa using State.scratchZero_iff.1 ht.scratchZero
  cmdLegal := by simpa [State.cmdLegal] using ht.cmdLegal
  runningLegal := by simpa [State.runningLegal, issueCheck_congr _ _ (noteUnread_x i s t)] using ht.runningLegal
  idleQuiet := by simpa [State.idleQuiet] using ht.idleQuiet
  memory := by simpa using ht.memory
  unreadLegal := fun e he => by
    obtain he | ⟨hc, -, rfl⟩ := mem_noteUnread he
    · exact ht.unreadLegal e he
    · exact ⟨hs.memory, outputRegion_fits hc⟩

theorem State.Good.of_performNow (hs : s.Good) (hb : s.status.busy = false) (h : performNow i s = .next t) : t.Good := by
  unfold performNow at h
  split at h
  case h_1 u he =>
    obtain rfl : noteUnread i s u = t := by simpa using h
    exact hs.of_noteUnread (hs.of_exec hb he)
  case h_2 => simp at h
  case h_3 => simp at h

theorem State.Good.of_completeRunning (hs : s.Good) (hb : s.status.busy = true) (h : completeRunning s = .next t) : t.Good := by
  obtain ⟨i, hd, hc⟩ := hs.running hb
  obtain rfl : noteUnread i s (settle i s (effectDone i s)) = t := by
    simpa [completeRunning, hd, exec_eq_effectDone hc] using h
  exact hs.of_noteUnread (hs.of_settle_effectDone hc)

/-- The issue of a command word (R213 to R215). -/
theorem State.Good.of_issue {w : Word32} (hs : s.Good) (hb : s.status.busy = false) (h : issue w s = .next t) : t.Good := by
  have hs' : { s with latency := s.latency.tail : State }.Good := hs.of_unmentioned _ _ _ _ _ _
  unfold issue at h
  split at h
  case h_1 =>
    obtain rfl : reject .illCmd s = t := by simpa using h
    exact hs.of_reject hb _
  case h_2 i hd =>
    simp only at h
    split at h
    case h_1 => exact hs'.of_performNow hb h
    case h_2 d _ =>
      split at h
      case h_1 => exact hs'.of_exec hb h
      case h_2 hc =>
        obtain rfl : acceptFor d w { s with latency := s.latency.tail } = t := by simpa using h
        exact hs'.of_acceptFor hd hc d

theorem State.Good.of_windowWrite (hs : s.Good) (hb : s.status.busy = false) (r : WindowReg) (v : Word32) : (windowWrite r v s).Good := by
  cases r with
  | cmd | reserved => exact hs
  | status =>
    rw [windowWrite, statusWritten_eq]
    exact hs.with_wdrop _
  | operand k => exact hs.with_x hb _
  | hLo k | hHi k | blkw k => exact hs.of_unmentioned _ _ _ _ _ _

theorem State.Good.of_regWrite {off : Nat} {v : Word32} (hs : s.Good) (h : regWrite off v s = .next t) : t.Good := by
  unfold regWrite at h
  split at h
  case h_1 => simp at h
  case h_2 r _ =>
    split at h
    case isTrue =>
      obtain rfl : { s with status := statusDropped s.status } = t := by simpa using h
      exact hs.with_wdrop true
    case isFalse hb =>
      rw [Bool.not_eq_true] at hb
      split at h
      case isTrue => exact hs.of_issue hb h
      case isFalse =>
        obtain rfl : windowWrite r v s = t := by simpa using h
        exact hs.of_windowWrite hb r v

theorem State.Good.of_regRead {off : Nat} (hs : s.Good) (h : regRead off s = .next t) : t.Good := by
  unfold regRead at h
  split at h
  case h_1 => simp at h
  case h_2 r _ =>
    obtain rfl := Host.Outcome.next.inj h
    split
    case isTrue => exact hs.with_unread_nil.of_unmentioned _ _ _ _ _ _
    case isFalse => exact hs.of_unmentioned _ _ _ _ _ _

theorem State.Good.of_storeOutside {addr : Nat} {bytes : List Byte} (hs : s.Good) (hfit : addr + bytes.length ≤ Config.memorySize) :
    (storeOutside addr bytes s).Good where
  statusLegal := hs.statusLegal
  scratchZero := hs.scratchZero
  cmdLegal := hs.cmdLegal
  runningLegal := hs.runningLegal
  idleQuiet := by
    cases hb : s.status.busy with
    | true => simp [State.idleQuiet, hb]
    | false => simp [State.idleQuiet, hb, hs.remaining_of_idle hb, hs.stores_of_idle hb]
  memory := wf_storeOutside hs.memory (fun e he => (hs.unreadLegal e he).2) addr bytes hfit
  unreadLegal := by
    simp only [storeOutside_unread, List.forall_mem_map]
    exact fun e he => ⟨wf_writeBytes (hs.unreadLegal e he).1 _ _ hfit, (hs.unreadLegal e he).2⟩

theorem State.Good.of_memStore {addr : Nat} {bytes : List Byte} (hs : s.Good) (h : memStore addr bytes s = .next t) : t.Good := by
  unfold memStore at h
  split at h
  case isTrue => simp at h
  case isFalse hfit =>
    rw [regionWraps_iff] at hfit
    obtain rfl := Host.Outcome.next.inj h
    exact hs.of_storeOutside (Nat.le_of_not_lt hfit)

theorem State.Good.of_memLoad {addr n : Nat} (hs : s.Good) (h : memLoad addr n s = .next t) : t.Good := by
  unfold memLoad at h
  split at h
  case isTrue => simp at h
  case isFalse =>
    split at h <;> (obtain rfl := Host.Outcome.next.inj h; exact hs.of_unmentioned _ _ _ _ _ _)

/-- Reset at any time; the byte writes of an abandoned command stay in its output region (R230, R232). -/
theorem State.Good.of_resetBlock (hs : s.Good) : (resetBlock s).Good where
  statusLegal := (rfl : Status.reset.legal = true)
  scratchZero := by simp [State.scratchZero_iff]
  cmdLegal := rfl
  runningLegal := rfl
  idleQuiet := rfl
  memory := by
    rw [resetBlock_mem]
    split
    case isTrue hb =>
      obtain ⟨i, hd, hc⟩ := hs.running hb
      have hr : runningOutput s = outputRegion i.op i.alg s := by simp [runningOutput, hd]
      exact wf_overlay hs.memory _ _ (hr ▸ outputRegion_fits hc)
    case isFalse => exact hs.memory
  unreadLegal := fun e he => by
    obtain he | ⟨i, -, -, he⟩ := mem_unreadAfterReset he
    · exact hs.unreadLegal e he
    · exact (hs.of_noteUnread hs).unreadLegal e he

theorem State.Good.of_access {a : HostAccess} (hs : s.Good) (h : access a s = .next t) : t.Good := by
  cases a with
  | regWrite off v => exact hs.of_regWrite h
  | regRead off => exact hs.of_regRead h
  | regOtherWidth off n => simp [access] at h
  | memStore addr bytes => exact hs.of_memStore h
  | memLoad addr n => exact hs.of_memLoad h
  | reset =>
    obtain rfl := Host.Outcome.next.inj h
    exact hs.of_resetBlock

theorem State.Good.of_nextAccess (hs : s.Good) (h : nextAccess s = .next t) : t.Good := by
  unfold nextAccess at h
  split at h
  case h_1 =>
    obtain rfl := Host.Outcome.next.inj h
    exact hs
  case h_2 a rest _ => exact (hs.of_unmentioned _ _ rest _ _ _).of_access h

theorem State.Good.of_step (hs : s.Good) (h : step s = .next t) : t.Good := by
  unfold step at h
  split at h
  case isTrue hb =>
    split at h
    case h_1 => exact hs.of_completeRunning hb h
    case h_2 d _ => exact (hs.with_remaining hb d).of_nextAccess h
  case isFalse => exact hs.of_nextAccess h

end Sys2Proof.Machine
end

section
namespace Sys2Proof.Proofs

open Sys2Proof.Machine Sys2Proof.Statement

/-- Settles O57: each operation of a step keeps the invariants. -/
theorem stepKeepsGood : Obligations.StepKeepsGood := fun _ _ hs h => hs.of_step h

end Sys2Proof.Proofs
end

section
/-! The register window: the register at each offset (R35, R36), and what an access does once the register is known (R33, R34). -/

namespace Sys2Proof.Machine

variable {off : Nat} {v : Word32} {s : State} {r : WindowReg}

theorem windowReg_eq_none (h : off % 4 ≠ 0 ∨ 0x100 ≤ off) : windowReg off = none := by simp [windowReg, h]

theorem windowReg_cmd : windowReg 0x00 = some .cmd := rfl

theorem windowReg_status : windowReg 0x04 = some .status := rfl

theorem windowReg_operand (ha : off % 4 = 0) (hl : 0x08 ≤ off) (hu : off ≤ 0x20) :
    windowReg off = some (.operand (Fin.ofNat 7 ((off - 0x08) / 4))) := by
  unfold windowReg
  rw [if_neg (by omega), if_neg (by omega), if_neg (by omega), if_pos hu]

theorem windowReg_reserved (ha : off % 4 = 0) (hl : 0x24 ≤ off) (hu : off ≤ 0x3C) : windowReg off = some .reserved := by
  unfold windowReg
  rw [if_neg (by omega), if_neg (by omega), if_neg (by omega), if_neg (by omega), if_pos hu]

theorem windowReg_h (ha : off % 4 = 0) (hl : 0x40 ≤ off) (hu : off ≤ 0x7C) :
    windowReg off = if off % 8 = 4 then some (.hHi (Fin.ofNat 8 ((off - 0x40) / 8))) else some (.hLo (Fin.ofNat 8 ((off - 0x40) / 8))) := by
  unfold windowReg
  rw [if_neg (by omega), if_neg (by omega), if_neg (by omega), if_neg (by omega), if_neg (by omega), if_pos hu]

theorem windowReg_blkw (ha : off % 4 = 0) (hl : 0x80 ≤ off) (hu : off < 0x100) :
    windowReg off = some (.blkw (Fin.ofNat 32 ((off - 0x80) / 4))) := by
  unfold windowReg
  rw [if_neg (by omega), if_neg (by omega), if_neg (by omega), if_neg (by omega), if_neg (by omega), if_neg (by omega)]

/-- Every aligned offset inside the window has a register (R35). -/
theorem exists_windowReg (ha : off % 4 = 0) (hu : off < 0x100) : ∃ r, windowReg off = some r := by
  unfold windowReg
  rw [if_neg (by omega)]
  split_ifs <;> exact ⟨_, rfl⟩

/-- STATUS is the register at offset 0x04 and at no other. -/
theorem eq_status_iff (h : windowReg off = some r) : r = .status ↔ off = 0x04 := by
  constructor
  · rintro rfl
    by_contra hoff
    unfold windowReg at h
    split_ifs at h <;> simp at h
  · rintro rfl
    exact (Option.some.inj h).symm

theorem aligned_and_four_ne_zero (ha : off % 4 = 0) : off &&& 4 ≠ 0 ↔ off % 8 = 4 := by
  rw [show 4 = 2 ^ 2 from rfl, Nat.and_two_pow, Nat.testBit_eq_decide_div_mod_eq]
  simp
  omega

theorem regRead_of_none (h : windowReg off = none) : regRead off s = .refused .windowAccess := by simp [regRead, h]

theorem regWrite_of_none (h : windowReg off = none) : regWrite off v s = .refused .windowAccess := by simp [regWrite, h]

theorem regRead_of_some (h : windowReg off = some r) (hv : windowRead r s = v) : regRead off s = .next { s with
    outbox := .word v :: s.outbox
    unread := if off = 0x04 ∧ s.status.busy = false then [] else s.unread } := by
  simp only [regRead, h, hv, eq_status_iff h]

/-- A write to any register while a command runs is dropped (R34). -/
theorem regWrite_of_busy (h : windowReg off = some r) (hb : s.status.busy = true) :
    regWrite off v s = .next { s with status := statusDropped s.status } := by
  simp [regWrite, h, hb]

theorem regWrite_cmd (hb : s.status.busy = false) : regWrite 0x00 v s = issue v s := by
  simp [regWrite, windowReg_cmd, hb]

theorem regWrite_of_idle (h : windowReg off = some r) (hr : r ≠ .cmd) (hb : s.status.busy = false) :
    regWrite off v s = .next (windowWrite r v s) := by
  simp [regWrite, h, hb, hr]

@[simp] theorem windowRead_status : windowRead .status s = statusWord s.status := by simp [windowRead]

theorem windowRead_of_busy (hr : r ≠ .status) (hb : s.status.busy = true) : windowRead r s = 0 := by simp [windowRead, hr, hb]

theorem windowRead_cmd (hb : s.status.busy = false) : windowRead .cmd s = s.cmd := by simp [windowRead, hb]

theorem windowRead_operand (hb : s.status.busy = false) (i : Fin 7) : windowRead (.operand i) s = s.x[i] := by simp [windowRead, hb]

theorem windowRead_reserved (hb : s.status.busy = false) : windowRead .reserved s = 0 := by simp [windowRead, hb]

theorem windowRead_hLo (hb : s.status.busy = false) (i : Fin 8) : windowRead (.hLo i) s = lowHalf s.h[i] := by simp [windowRead, hb]

theorem windowRead_hHi (hb : s.status.busy = false) (i : Fin 8) : windowRead (.hHi i) s = highHalf s.h[i] := by simp [windowRead, hb]

theorem windowRead_blkw (hb : s.status.busy = false) (j : Fin 32) : windowRead (.blkw j) s = blkWord s.blk j := by simp [windowRead, hb]

theorem toList_getD {α : Type} {n : Nat} (a : Vector α n) {k : Nat} (hk : k < n) (d : α) : a.toList.getD k d = a[k] := by simp [hk]

theorem eq_finOfNat_iff {n : Nat} [NeZero n] {k : Nat} (hk : k < n) (j : Fin n) : j = Fin.ofNat n k ↔ j.val = k := by
  rw [Fin.ext_iff, Fin.val_ofNat, Nat.mod_eq_of_lt hk]

/-- An array after its element at `i` was changed by `f`. -/
theorem getElem_set_apply {α : Type} {n : Nat} (a : Vector α n) (f : α → α) (i j : Fin n) :
    (a.set i (f a[i]))[j] = if j = i then f a[j] else a[j] := by
  by_cases h : j = i
  · simp [h]
  · rw [if_neg h]
    exact Vector.getElem_set_ne _ _ fun e => h (Fin.ext e.symm)

/-- The register an offset names, as the element of its array at the offset's position. -/
theorem getElem_finOfNat {α : Type} {n : Nat} [NeZero n] (a : Vector α n) {k : Nat} (hk : k < n) : a[Fin.ofNat n k] = a[k] := by
  simp [Nat.mod_eq_of_lt hk]

/-- Four bytes as a word, the last one least significant, as the sum of their shifted values. -/
theorem append_bytes_eq_or (a b c d : Byte) : d ++ c ++ b ++ a =
    a.setWidth 32 ||| b.setWidth 32 <<< 8 ||| c.setWidth 32 <<< 16 ||| d.setWidth 32 <<< 24 := by
  apply BitVec.eq_of_getLsbD_eq
  intro k hk
  simp only [BitVec.getLsbD_append, BitVec.getLsbD_or, BitVec.getLsbD_shiftLeft, BitVec.getLsbD_setWidth]
  rcases (by omega : k < 8 ∨ 8 ≤ k ∧ k < 16 ∨ 16 ≤ k ∧ k < 24 ∨ 24 ≤ k ∧ k < 32) with h | h | h | h
  all_goals
    simp (disch := omega) only [if_pos, if_neg, decide_eq_true, decide_eq_false, BitVec.getLsbD_of_ge, Nat.sub_sub]
    simp

/-- A word of the block buffer, its bytes from the least significant up (R28). -/
theorem blkWord_finOfNat (blk : Vector Byte 128) {j : Nat} (hj : j < 32) : blkWord blk (Fin.ofNat 32 j) =
    (blk.toList.getD (4 * j) 0).setWidth 32 ||| (blk.toList.getD (4 * j + 1) 0).setWidth 32 <<< 8 |||
      (blk.toList.getD (4 * j + 2) 0).setWidth 32 <<< 16 ||| (blk.toList.getD (4 * j + 3) 0).setWidth 32 <<< 24 := by
  rw [← append_bytes_eq_or]
  simp (disch := omega) only [blkWord, Fin.val_ofNat, Nat.mod_eq_of_lt, toList_getD]

/-- A write to a word of the block buffer changes its four bytes and no other (R28). -/
theorem getElem_setBlkWord (blk : Vector Byte 128) (j : Fin 32) (v : Word32) (k : Fin 128) :
    (setBlkWord blk j v)[k] = if k.val / 4 = j.val then v.extractLsb' (8 * (k.val % 4)) 8 else blk[k] := by
  simp only [setBlkWord, lane, Fin.getElem_fin, Vector.getElem_set]
  by_cases hj : k.val / 4 = j.val
  · rw [if_pos hj]
    rcases (by omega : k.val % 4 = 0 ∨ k.val % 4 = 1 ∨ k.val % 4 = 2 ∨ k.val % 4 = 3) with h | h | h | h
    all_goals simp (disch := omega) only [h, if_pos, if_neg]
  · rw [if_neg hj]
    simp (disch := omega) only [if_neg]

theorem regWrite_status (hb : s.status.busy = false) :
    regWrite 0x04 v s = .next { s with status := { s.status with wdrop := s.status.wdrop && !v.getLsbD 8 } } := by
  rw [regWrite_of_idle windowReg_status (by decide) hb, windowWrite, statusWritten_eq]

theorem regWrite_operand (ha : off % 4 = 0) (hb : s.status.busy = false) (hl : 0x08 ≤ off) (hu : off ≤ 0x20) :
    regWrite off v s = .next { s with x := s.x.setIfInBounds ((off - 0x08) / 4) v } := by
  have hk : (off - 0x08) / 4 < 7 := by omega
  have hset : s.x.setIfInBounds ((off - 0x08) / 4) v = s.x.set ((off - 0x08) / 4) v := by
    ext
    simp [Vector.getElem_set, Vector.getElem_setIfInBounds]
  rw [regWrite_of_idle (windowReg_operand ha hl hu) (by simp) hb, hset]
  simp only [windowWrite, Fin.val_ofNat, Nat.mod_eq_of_lt hk]

theorem regWrite_reserved (ha : off % 4 = 0) (hb : s.status.busy = false) (hl : 0x24 ≤ off) (hu : off ≤ 0x3C) : regWrite off v s = .next s := by
  rw [regWrite_of_idle (windowReg_reserved ha hl hu) (by simp) hb, windowWrite]

theorem regWrite_h (ha : off % 4 = 0) (hb : s.status.busy = false) (hl : 0x40 ≤ off) (hu : off ≤ 0x7C) :
    ∃ h' : Vector Word64 8, regWrite off v s = .next { s with h := h' } ∧ ∀ j : Fin 8, h'[j] =
      if j.val = (off - 0x40) / 8 then
        (if off &&& 4 ≠ 0 then v ++ s.h[j].extractLsb' 0 32 else s.h[j].extractLsb' 32 32 ++ v)
      else s.h[j] := by
  have hk : (off - 0x40) / 8 < 8 := by omega
  have hr := windowReg_h ha hl hu
  simp only [aligned_and_four_ne_zero ha, ← eq_finOfNat_iff hk]
  split_ifs at hr ⊢ with hbit
  · exact ⟨_, regWrite_of_idle hr (by simp) hb, getElem_set_apply s.h (fun w => v ++ lowHalf w) _⟩
  · exact ⟨_, regWrite_of_idle hr (by simp) hb, getElem_set_apply s.h (fun w => highHalf w ++ v) _⟩

theorem regWrite_blkw (ha : off % 4 = 0) (hb : s.status.busy = false) (hl : 0x80 ≤ off) (hu : off < 0x100) :
    ∃ b' : Vector Byte 128, regWrite off v s = .next { s with blk := b' } ∧ ∀ k : Fin 128, b'[k] =
      if k.val / 4 = (off - 0x80) / 4 then v.extractLsb' (8 * (k.val % 4)) 8 else s.blk[k] := by
  refine ⟨_, regWrite_of_idle (windowReg_blkw ha hl hu) (by simp) hb, fun k => ?_⟩
  rw [getElem_setBlkWord, Fin.val_ofNat, Nat.mod_eq_of_lt (by omega)]

theorem getLsbD_bit32 (b : Bool) (k : Nat) : (bit32 b).getLsbD k = (b && decide (k = 0)) := by
  cases b <;> simp [bit32]

/-- One bit of STATUS as a RegRead returns it (R24). -/
theorem getLsbD_statusWord (st : Status) (k : Nat) : (statusWord st).getLsbD k =
    if k = 0 then st.busy else if k = 1 then st.done else if k = 2 then st.err
    else if 4 ≤ k ∧ k < 8 then st.ecode.getLsbD (k - 4) else decide (k = 8) && st.wdrop := by
  simp only [statusWord, BitVec.getLsbD_or, BitVec.getLsbD_shiftLeft, BitVec.getLsbD_setWidth, getLsbD_bit32]
  grind

theorem ecode_statusWord (st : Status) : (statusWord st).extractLsb' 4 4 = st.ecode := by
  apply BitVec.eq_of_getLsbD_eq
  intro k hk
  rw [BitVec.getLsbD_extractLsb', getLsbD_statusWord, if_neg (by omega), if_neg (by omega), if_neg (by omega), if_pos (by omega)]
  simp [hk]

theorem top_statusWord (st : Status) : (statusWord st).extractLsb' 9 23 = 0 := by
  apply BitVec.eq_of_getLsbD_eq
  intro k hk
  rw [BitVec.getLsbD_extractLsb', getLsbD_statusWord, if_neg (by omega), if_neg (by omega), if_neg (by omega), if_neg (by omega)]
  simp
  omega

end Sys2Proof.Machine
end

section
namespace Sys2Proof.Proofs

open Sys2Proof.Machine Sys2Proof.Statement

/-- Settles O45: such an offset has no register. -/
theorem otherAccessesRefused : Obligations.OtherAccessesRefused := by
  intro off v n s
  refine ⟨fun h => ?_, fun _ => rfl⟩
  have hr := windowReg_eq_none h
  exact ⟨regRead_of_none hr, regWrite_of_none hr⟩

/-- Settles O44, bit by bit. -/
theorem statusRegisterBits : Obligations.StatusRegisterBits := by
  constructor
  · intro st
    refine ⟨?_, ?_, ?_, ?_, ecode_statusWord st, ?_, top_statusWord st⟩ <;> simp only [getLsbD_statusWord] <;> simp
  · intro v s hb
    rw [regWrite_status hb]
    cases v.getLsbD 8 <;> simp

/-- Settles O41: the value of the register at the offset, class by class of R33's table. -/
theorem regReadReturns : Obligations.RegReadReturns := by
  intro off s hu ha
  obtain ⟨r, hr⟩ := exists_windowReg ha hu
  refine regRead_of_some hr ?_
  split_ifs with h4 hb h0 hop hres hh hbit
  · rw [(eq_status_iff hr).2 h4, windowRead_status]
  · exact windowRead_of_busy (mt (eq_status_iff hr).1 h4) hb
  all_goals rw [Bool.not_eq_true] at hb
  · subst h0
    rw [← Option.some.inj hr, windowRead_cmd hb]
  · rw [windowReg_operand ha (by omega) hop] at hr
    rw [← Option.some.inj hr, windowRead_operand hb, getElem_finOfNat _ (by omega), toList_getD _ (by omega)]
  · rw [windowReg_reserved ha (by omega) hres] at hr
    rw [← Option.some.inj hr, windowRead_reserved hb]
  · rw [windowReg_h ha (by omega) hh, if_pos ((aligned_and_four_ne_zero ha).1 hbit)] at hr
    rw [← Option.some.inj hr, windowRead_hHi hb, highHalf, getElem_finOfNat _ (by omega), toList_getD _ (by omega)]
  · rw [windowReg_h ha (by omega) hh, if_neg (mt (aligned_and_four_ne_zero ha).2 hbit)] at hr
    rw [← Option.some.inj hr, windowRead_hLo hb, lowHalf, getElem_finOfNat _ (by omega), toList_getD _ (by omega)]
  · rw [windowReg_blkw ha (by omega) hu] at hr
    rw [← Option.some.inj hr, windowRead_blkw hb, blkWord_finOfNat _ (by omega)]
    rfl

/-- Settles O42: the effect on the register at the offset, class by class of R34's table. -/
theorem regWriteEffects : Obligations.RegWriteEffects := by
  intro off v s hu ha
  obtain ⟨r, hr⟩ := exists_windowReg ha hu
  refine ⟨fun hb => regWrite_of_busy hr hb, fun hb => ⟨?_, ?_, ?_, ?_, ?_, ?_⟩⟩
  · rintro rfl
    exact regWrite_cmd hb
  · rintro rfl
    exact regWrite_status hb
  · exact regWrite_operand ha hb
  · exact regWrite_reserved ha hb
  · exact regWrite_h ha hb
  · exact fun hl => regWrite_blkw ha hb hl hu

end Sys2Proof.Proofs
end

section
/-! Steps: one access of an outside agent, and the command a written word issues (R31, R213, R215). -/

namespace Sys2Proof.Machine

variable {s : State} {i : Instr}

theorem nextAccess_cons {a : HostAccess} {rest : List HostAccess} (h : s.inbox = a :: rest) :
    nextAccess s = access a { s with inbox := rest } := by
  simp [nextAccess, h]

theorem step_of_idle (hb : s.status.busy = false) : step s = nextAccess s := by simp [step, hb]

theorem step_of_busy {d : Nat} (hb : s.status.busy = true) (hr : s.remaining = d + 1) : step s = nextAccess { s with remaining := d } := by
  simp [step, hb, hr]

/-- A command has a meaning in every state: it ends in a next state (R210, R215). -/
theorem exists_exec_eq_next (i : Instr) (s : State) : ∃ t, exec i s = .next t := by
  obtain ⟨c, -, he⟩ | ⟨-, he⟩ := exec_cases i s
  · exact ⟨_, he⟩
  · exact ⟨_, he⟩

theorem performNow_of_exec {t : State} (h : exec i s = .next t) : performNow i s = .next (noteUnread i s t) := by simp [performNow, h]

/-- A legal word the platform gives duration 0 is performed at its issue (R215). -/
theorem issue_of_decode {w : Word32} (hd : decode w = some i) (hl : s.latency.headD 0 = 0) :
    issue w s = performNow i { s with latency := s.latency.tail } := by
  simp only [issue, hd, hl]

end Sys2Proof.Machine

namespace Sys2Proof.Statement

open Sys2Proof.Machine

/-- What the model notes as unread is what the statements say. -/
theorem noteUnread_eq_noted (i : Instr) (s t : State) : noteUnread i s t = noted i s t := by
  unfold noteUnread noted
  split <;> rfl

end Sys2Proof.Statement
end

section
/-! A command reads the operand registers R22's table gives it and no other. -/

namespace Sys2Proof.Machine

open Sys2Proof.Statement

/-- The operand registers `x` agree with those of `s` on all the operation reads (R22). -/
def AgreesOnRead (op : Op) (s : State) (x : Vector Word32 7) : Prop := ∀ k : Fin 7, readsOperand op k = true → x[k] = s.x[k]

variable {op : Op} {s : State} {x : Vector Word32 7}

theorem agreesOnRead_set {k : Fin 7} (h : readsOperand op k = false) (s : State) (v : Word32) : AgreesOnRead op s (s.x.set k v) := by
  intro j hj
  have hne : k.val ≠ j.val := fun e => by simp [← Fin.ext e, h] at hj
  exact Vector.getElem_set_ne _ _ hne

theorem AgreesOnRead.getElem (h : AgreesOnRead op s x) (k : Nat) (hk : k < 7 := by decide) (hr : readsOperand op ⟨k, hk⟩ = true := by rfl) :
    x[k] = s.x[k] := h ⟨k, hk⟩ hr

theorem AgreesOnRead.eq_of_pbkdf (h : AgreesOnRead .pbkdf s x) : x = s.x := Vector.ext fun k hk => h.getElem k hk

/-- The checks at issue read only what R22's table gives the operation. -/
theorem issueCheck_of_agreesOnRead (alg : Alg) (h : AgreesOnRead op s x) : issueCheck op alg { s with x := x } = issueCheck op alg s := by
  cases op with
  | init | compress | final | zeroize => rfl
  | storeh => simp [issueCheck, inputRegions, outputRegion, State.dst, h.getElem 2]
  | digest =>
    simp [issueCheck, inputRegions, outputRegion, sourceRegion, State.src, State.len, State.dst, h.getElem 0, h.getElem 1, h.getElem 2]
  | hmac =>
    simp [issueCheck, inputRegions, outputRegion, sourceRegion, keyRegion, State.src, State.len, State.dst, State.key, State.keylen,
      h.getElem 0, h.getElem 1, h.getElem 2, h.getElem 3, h.getElem 4]
  | pbkdf => rw [h.eq_of_pbkdf]

/-- The effect reads only what R22's table gives the operation. -/
theorem commandEffect_of_agreesOnRead (alg : Alg) (h : AgreesOnRead op s x) :
    commandEffect op alg { s with x := x } = { commandEffect op alg s with x := x } := by
  cases op with
  | init | compress | zeroize => rfl
  | final => simp [commandEffect, finalEffect, finalTail, State.len, h.getElem 1]
  | storeh => simp [commandEffect, storehEffect, State.dst, h.getElem 2]
  | digest =>
    simp [commandEffect, digestEffect, digestOutput, zeroizeState, State.src, State.len, State.dst, h.getElem 0, h.getElem 1, h.getElem 2]
  | hmac =>
    simp [commandEffect, hmacEffect, hmacOutput, zeroizeState, State.src, State.len, State.dst, State.key, State.keylen,
      h.getElem 0, h.getElem 1, h.getElem 2, h.getElem 3, h.getElem 4]
  | pbkdf => rw [h.eq_of_pbkdf]; rfl

/-- The operand registers a command does not read are no part of what it does (R22). -/
theorem exec_of_agreesOnRead {i : Instr} {t : State} (h : AgreesOnRead i.op s x) (he : exec i s = .next t) :
    exec i { s with x := x } = .next { t with x := x } := by
  have hcheck := issueCheck_of_agreesOnRead i.alg h
  cases hc : issueCheck i.op i.alg s with
  | some c =>
    obtain rfl : reject c s = t := by simpa [exec_of_rejected hc] using he
    exact exec_of_rejected (hcheck.trans hc)
  | none =>
    obtain rfl : effectDone i s = t := by simpa [exec_eq_effectDone hc] using he
    have heffect := commandEffect_of_agreesOnRead (s := accept (encode i) s) i.alg h
    exact (exec_of_accepted (hcheck.trans hc)).trans (congrArg (fun u => Host.Outcome.next (complete u)) heffect)

end Sys2Proof.Machine
end

section
namespace Sys2Proof.Proofs

open Sys2Proof.Machine Sys2Proof.Statement

/-- Settles O33: a rejection changes STATUS only, and no effect reaches the operand registers or the model's own fields. -/
theorem commandsKeepTheOperands : Obligations.CommandsKeepTheOperands := by
  intro i s
  obtain ⟨c, -, he⟩ | ⟨hc, -⟩ := exec_cases i s
  · exact ⟨reject c s, he, rfl, rfl, rfl, rfl, rfl, rfl, rfl, rfl, rfl, .inl ⟨rfl, rfl⟩⟩
  · exact ⟨effectDone i s, exec_eq_effectDone hc, by simp⟩

/-- Settles O34: the changed register agrees with the old ones on all the command reads. -/
theorem unreadOperandsHaveNoEffect : Obligations.UnreadOperandsHaveNoEffect := by
  intro i s t k v hk he
  have hx : t.x = s.x := by
    obtain ⟨u, hu, hux, -⟩ := commandsKeepTheOperands i s
    rw [Host.Outcome.next.inj (he.symm.trans hu), hux]
  rw [exec_of_agreesOnRead (agreesOnRead_set hk s v) he, hx]

/-- Settles O37: with no command unread a store is the write of its bytes; with unread ones it is recorded all the same. -/
theorem hostMemoryAccesses : Obligations.HostMemoryAccesses := by
  intro addr n v s
  have hfits : ∀ k, addr + k ≤ 2 ^ 32 → regionWraps (addr, k) = false := fun k hk => by
    rw [Bool.eq_false_iff, Ne, regionWraps_iff]
    exact Nat.not_lt.2 hk
  have hstore : addr + v.length ≤ 2 ^ 32 → access (.memStore addr v) s = .next (storeOutside addr v s) := fun hv => by
    simp [access, memStore, hfits _ hv]
  refine ⟨fun hb hu hv => ?_, fun hb hu hn => ?_, fun hb hu hv => ?_, fun hb hv => ?_, fun hv => ?_, fun hn => ?_⟩
  · simp [hstore hv, storeOutside_of_unread_nil hu, hb]
  · simp [access, memLoad, hfits _ hn, hb, hu]
  · simp [hstore hv, storeOutside_of_unread_nil hu, hb]
  · refine ⟨storeOutside addr v s, hstore hv, ?_⟩
    rw [storeOutside_stores, if_pos hb]
    exact ⟨List.mem_cons_self, fun r hr => List.mem_append_right _ hr⟩
  · simp [access, memStore, (regionWraps_iff (addr, v.length)).2 hv]
  · simp [access, memLoad, (regionWraps_iff (addr, n)).2 hn]

/-- Settles O49: the access of the next step, at the offset's register. -/
theorem busyWindow : Obligations.BusyWindow := by
  intro s d off v rest hb hr hu ha
  obtain ⟨r, hreg⟩ := exists_windowReg ha hu
  have hstep : ∀ a, s.inbox = a :: rest → step s = access a { s with remaining := d, inbox := rest } := fun a hin => by
    rw [step_of_busy hb hr]
    exact nextAccess_cons hin
  refine ⟨fun hin => ?_, fun hin hoff => ?_, fun hin hoff => ?_⟩
  · rw [hstep _ hin]
    exact regWrite_of_busy hreg hb
  · have hread : windowRead r { s with remaining := d, inbox := rest } = 0 := windowRead_of_busy (mt (eq_status_iff hreg).1 hoff) hb
    rw [hstep _ hin, access, regRead_of_some hreg hread]
    simp [hoff]
  · have hread : windowRead r { s with remaining := d, inbox := rest } = statusWord s.status := by
      rw [(eq_status_iff hreg).2 hoff, windowRead_status]
    rw [hstep _ hin, access, regRead_of_some hreg hread]
    simp [hb]

/-- A legal word written to CMD, with duration 0, is performed in its step (R213, R215). -/
theorem step_of_command_written {s : State} {w : Word32} {i : Instr} {rest : List HostAccess} (hb : s.status.busy = false)
    (hin : s.inbox = .regWrite 0x00 w :: rest) (hl : s.latency.headD 0 = 0) (hd : decode w = some i) :
    ∃ t : State, exec i { s with inbox := rest, latency := s.latency.tail } = .next t ∧ step s = .next (noted i s t) := by
  obtain ⟨t, ht⟩ := exists_exec_eq_next i { s with inbox := rest, latency := s.latency.tail }
  refine ⟨t, ht, ?_⟩
  calc step s = regWrite 0x00 w { s with inbox := rest } := by rw [step_of_idle hb, nextAccess_cons hin]; rfl
    _ = issue w { s with inbox := rest } := regWrite_cmd hb
    _ = performNow i { s with inbox := rest, latency := s.latency.tail } := issue_of_decode hd hl
    _ = .next (noted i s t) := by rw [performNow_of_exec ht, noteUnread_eq_noted]; rfl

/-- Settles O47: the word placed for the host's reading of the opcode table is one written to CMD with duration 0. -/
theorem stepRunsTheCommandWritten : Obligations.StepRunsTheCommandWritten := by
  refine ⟨fun s w i rest => step_of_command_written, fun s n i hn hd hb => ?_⟩
  have hword : decode (BitVec.ofNat 32 (n % 2 ^ 32)) = some i := by
    rwa [decodeTableWord, if_pos (Nat.mod_lt _ (by decide))] at hd
  have hidle : { s.status with busy := false } = s.status := by rw [← hb]
  obtain ⟨t, ht, hstep⟩ := step_of_command_written (s := s.withFetchWord 32 n) (rest := s.inbox) rfl rfl rfl hword
  refine ⟨t, ?_, hstep⟩
  rwa [State.withFetchWord, placeWord, hidle] at ht

/-- Settles O55: reset of an idle block is the reset state around the memory. -/
theorem resetValues : Obligations.ResetValues := by
  refine ⟨rfl, rfl, rfl, rfl, rfl, rfl, rfl, rfl, rfl, rfl, fun s hb => ⟨resetBlock s, rfl, ?_⟩⟩
  have hmem : (resetBlock s).mem = s.mem := by simp [hb]
  exact ⟨hmem, rfl, rfl, rfl, rfl, rfl, rfl, rfl, rfl, rfl, rfl⟩

/-- Settles O56, invariant by invariant. -/
theorem resetIsGood : Obligations.ResetIsGood where
  statusLegal := rfl
  scratchZero := State.scratchZero_iff.2 ⟨rfl, rfl, rfl, rfl, rfl⟩
  cmdLegal := rfl
  runningLegal := rfl
  idleQuiet := rfl
  memory := wf_nil
  unreadLegal := fun e he => by cases he

end Sys2Proof.Proofs
end

section
/-! A memory in canonical form lists exactly the bytes that differ from what an unlisted address reads as, so what it reads determines it (R52, log entry 1). -/

namespace Sys2Proof.Machine

/-- An address that reads as nothing unlisted does is listed, with the byte it reads as. -/
theorem mem_of_readByte_ne {m : Memory} {a : Nat} (h : readByte m a ≠ Config.unlistedByte) : (a, readByte m a) ∈ m := by
  induction m with
  | nil => exact absurd rfl h
  | cons c m ih =>
    obtain ⟨k, b⟩ := c
    simp only [readByte] at h ⊢
    split
    case isTrue hk => simp [hk]
    case isFalse hk =>
      rw [if_neg hk] at h
      exact List.mem_cons_of_mem _ (ih h)

/-- With rising addresses a listed byte is the one read: no lower cell has its address. -/
theorem readByte_of_mem {m : Memory} (hs : m.Pairwise fun c d => c.1 < d.1) {a : Nat} {b : Byte} (h : (a, b) ∈ m) : readByte m a = b := by
  induction m with
  | nil => cases h
  | cons c m ih =>
    obtain ⟨k, b'⟩ := c
    rw [List.pairwise_cons] at hs
    rcases List.mem_cons.1 h with heq | h
    · simp [readByte, (Prod.mk.inj heq).1, (Prod.mk.inj heq).2]
    · have hk : k < a := hs.1 _ h
      rw [readByte, if_neg hk.ne, ih hs.2 h]

/-- The cells of a memory in canonical form, by what is read. -/
theorem mem_iff_readByte {m : Memory} (hm : Memory.wf m) (c : Host.Cell) : c ∈ m ↔ readByte m c.1 = c.2 ∧ c.2 ≠ Config.unlistedByte := by
  constructor
  · exact fun h => ⟨readByte_of_mem hm.1 h, (hm.2 c h).2⟩
  · rintro ⟨hr, hb⟩
    rw [← hr] at hb
    simpa [hr] using mem_of_readByte_ne hb

/-- Memories in canonical form that read alike are equal: they have the same cells, in the one rising order. -/
theorem eq_of_readByte_eq {m m' : Memory} (hm : Memory.wf m) (hm' : Memory.wf m') (h : ∀ a, readByte m a = readByte m' a) : m = m' := by
  have hirrefl : Std.Irrefl fun c d : Host.Cell => c.1 < d.1 := ⟨fun c => lt_irrefl c.1⟩
  have hasymm : Std.Antisymm fun c d : Host.Cell => c.1 < d.1 := ⟨fun c d hcd hdc => absurd hdc hcd.asymm⟩
  exact hm.1.eq_of_mem_iff hm'.1 fun c => by rw [mem_iff_readByte hm, mem_iff_readByte hm', h]

end Sys2Proof.Machine
end

section
/-! The bytes a command writes to its output region, by name, and the memory it leaves (R51, R159, R173, R183, R205). -/

namespace Sys2Proof.Machine

/-- What a command writes to its output region. -/
def commandOutput (op : Op) (alg : Alg) (s : State) : List Byte :=
  match op with
  | .storeh => stateBytes alg s.h
  | .digest => digestOutput alg s
  | .hmac => hmacOutput alg s
  | .pbkdf => pbkdfOutput alg s
  | .init | .compress | .final | .zeroize => []

variable (op : Op) (alg : Alg) (i : Instr) (s : State)

@[simp] theorem commandOutput_length : (commandOutput op alg s).length = (outputRegion op alg s).2 := by
  cases op with
  | init | compress | final | zeroize => rfl
  | storeh => exact stateBytes_length _ _
  | digest => exact digest_length _ _
  | hmac => exact macBytes_length _ _ _
  | pbkdf => exact kdfBytes_length _ _ _ _ _

theorem commandEffect_mem_eq_writeBytes :
    (commandEffect op alg s).mem = writeBytes s.mem (outputRegion op alg s).1 (commandOutput op alg s) := by
  cases op <;> rfl

/-- Acceptance changes nothing an output depends on, and completion leaves memory alone (R214, R215). -/
theorem effectDone_mem : (effectDone i s).mem = writeBytes s.mem (outputRegion i.op i.alg s).1 (commandOutput i.op i.alg s) := by
  have hregion : outputRegion i.op i.alg (accept (encode i) s) = outputRegion i.op i.alg s := by cases i.op <;> rfl
  have houtput : commandOutput i.op i.alg (accept (encode i) s) = commandOutput i.op i.alg s := by cases i.op <;> rfl
  rw [effectDone, complete_mem, commandEffect_mem_eq_writeBytes, hregion, houtput, accept_mem]

variable {s}

theorem readByte_effectDone_of_outside (h : Memory.wf s.mem) {a : Nat} (ha : inRegion (outputRegion i.op i.alg s) a = false) :
    readByte (effectDone i s).mem a = readByte s.mem a := by
  rw [inRegion_eq_false_iff, ← commandOutput_length] at ha
  rw [effectDone_mem, readByte_writeBytes_of_outside h.1 _ _ ha]

theorem readBytes_effectDone (h : Memory.wf s.mem) :
    readBytes (effectDone i s).mem (outputRegion i.op i.alg s).1 (outputRegion i.op i.alg s).2 = commandOutput i.op i.alg s := by
  rw [effectDone_mem, ← commandOutput_length, readBytes_writeBytes h.1]

end Sys2Proof.Machine
end

section
namespace Sys2Proof.Proofs

open Sys2Proof.Machine Sys2Proof.Statement

/-- Settles O36, from the rules of a write and of a read, byte by byte. -/
theorem memWriteThenRead : Obligations.MemWriteThenRead := by
  intro m addr v hm
  refine ⟨fun k hk => readByte_writeBytes_of_inside hm.1 addr v hk, fun a ha => readByte_writeBytes_of_outside hm.1 addr v ha,
    readBytes_writeBytes hm.1 addr v, fun n => ⟨readBytes_length m addr n, fun k hk => ?_⟩⟩
  have hk' : k < (readBytes m addr n).length := by simpa using hk
  rw [List.getD_eq_getElem _ _ hk', getElem_readBytes]

/-- Settles O38: the cells of a canonical memory are determined by what it reads, and every byte write keeps their order. -/
theorem memoryFormIsCanonical : Obligations.MemoryFormIsCanonical :=
  ⟨fun _ _ hm hm' h => eq_of_readByte_eq hm hm' h, fun _ addr v hm hfit => wf_writeBytes hm addr v hfit⟩

/-- Settles O39: a rejection leaves memory as it was; an accepted command writes its output to its output region and nothing else. -/
theorem storingCommandsFrame : Obligations.StoringCommandsFrame := by
  intro i s t _ hm he
  obtain ⟨c, -, hr⟩ | ⟨hc, -⟩ := exec_cases i s
  · obtain rfl : reject c s = t := by simpa [hr] using he
    exact ⟨fun _ _ => rfl, fun h => by simp at h, fun _ _ => rfl⟩
  · obtain rfl : effectDone i s = t := by simpa [exec_eq_effectDone hc] using he
    exact ⟨fun _ ha => readByte_effectDone_of_outside i hm ha, fun _ => readBytes_effectDone i hm, fun h => by simp at h⟩

end Sys2Proof.Proofs
end

section
/-! The command word: the decoder reads the three fields of R71 and inverts the code tables of R72 and R73, and what it refuses is rejected at issue. -/

namespace Sys2Proof.Machine

open Sys2Proof.Statement

variable {w : Word32} {i : Instr} {op : Op} {alg : Alg}

/-- The three fields are the whole word (R71). -/
theorem eq_append_fields (w : Word32) : w = zeroField w ++ algField w ++ opField w := by
  unfold zeroField algField opField
  rw [BitVec.extractLsb'_append_extractLsb'_eq_extractLsb' (start₂ := 6) (start₁ := 4) rfl,
    BitVec.extractLsb'_append_extractLsb'_eq_extractLsb' (start₂ := 4) (start₁ := 0) rfl]
  exact BitVec.extractLsb'_eq_self.symm

theorem opName_eq_some_iff {c : BitVec 4} : opName c = some op ↔ c = op.code := by
  constructor
  · fun_cases opName c <;> rintro ⟨⟩ <;> assumption
  · rintro rfl
    cases op <;> rfl

/-- The OP codes R72 gives to no operation. -/
theorem opName_eq_none_iff : ∀ c : BitVec 4, opName c = none ↔ c = 0 ∨ 9 ≤ c := by decide

theorem algName_eq_iff (c : BitVec 2) (alg : Alg) : algName c = alg ↔ c = alg.code := by
  revert c
  cases alg <;> decide

/-- A command is the one command of its operation and its algorithm. -/
theorem instrOf_eq_some_iff : instrOf op alg = some i ↔ op = i.op ∧ alg = i.alg := by
  constructor
  · fun_cases instrOf op alg <;> rintro ⟨⟩ <;> exact ⟨rfl, rfl⟩
  · rintro ⟨rfl, rfl⟩
    cases i <;> rfl

/-- The one operation that does not exist with every algorithm is ZEROIZE (R73). -/
theorem instrOf_eq_none_iff : instrOf op alg = none ↔ op = .zeroize ∧ alg ≠ .sha1 := by
  fun_cases instrOf op alg <;> simp

theorem decode_eq_some_iff_fields : decode w = some i ↔ zeroField w = 0 ∧ algField w = i.alg.code ∧ opField w = i.op.code := by
  rw [← opName_eq_some_iff, ← algName_eq_iff]
  unfold decode
  cases opName (opField w) with
  | none => simp
  | some op => simp [instrOf_eq_some_iff, and_comm]

theorem decode_eq_none_iff_fields : decode w = none ↔
    zeroField w ≠ 0 ∨ opName (opField w) = none ∨ opName (opField w) = some .zeroize ∧ algName (algField w) ≠ .sha1 := by
  unfold decode
  cases opName (opField w) with
  | none => simp
  | some op => simp [instrOf_eq_none_iff, imp_iff_not_or]

theorem decode_eq_some_iff : decode w = some i ↔ w = encode i := by
  constructor
  · rw [decode_eq_some_iff_fields]
    rintro ⟨hzero, halg, hop⟩
    rw [eq_append_fields w, hzero, halg, hop, encode, commandWord]
  · rintro rfl
    exact decode_encode i

/-- R76 (b) and (c) are the codes of no operation, R76 (d) is ZEROIZE with another ALG code than 0. -/
theorem decode_eq_none_iff : decode w = none ↔ illegalWord w := by
  rw [decode_eq_none_iff_fields, opName_eq_none_iff, opName_eq_some_iff, ne_eq (algName _), algName_eq_iff, or_assoc]
  rfl

/-- R79's form of a command word. -/
theorem append_fields_eq_or : ∀ (a : BitVec 2) (o : BitVec 4),
    (0 : BitVec 26) ++ a ++ o = o.setWidth 32 ||| a.setWidth 32 <<< 4 := by decide

/-- The table of R75 gives every command its word and holds nothing else. -/
theorem mem_tableWords_iff : (w, i) ∈ tableWords ↔ w = encode i := by
  constructor
  · have hwords : ∀ p ∈ tableWords, p.1 = encode p.2 := by decide
    exact hwords (w, i)
  · rintro rfl
    cases i <;> decide

theorem reject_eq_rejectedWith (c : ErrCode) (s : State) : reject c s = rejectedWith (errValue c) s := rfl

/-- An illegal word starts nothing (R76, R213). -/
theorem issue_of_illegalWord (h : illegalWord w) (s : State) : issue w s = .next (rejectedWith 1 s) := by
  rw [issue, decode_eq_none_iff.2 h, reject_eq_rejectedWith]
  rfl

/-- A word written to CMD while idle is issued in its step (R31, R34). -/
theorem step_of_cmd_written {s : State} {rest : List HostAccess} (hb : s.status.busy = false) (hin : s.inbox = .regWrite 0x00 w :: rest) :
    step s = issue w { s with inbox := rest } :=
  calc step s = regWrite 0x00 w { s with inbox := rest } := by rw [step_of_idle hb, nextAccess_cons hin, access]
    _ = issue w { s with inbox := rest } := regWrite_cmd hb

end Sys2Proof.Machine
end

section
namespace Sys2Proof.Proofs

open Sys2Proof.Machine Sys2Proof.Statement

/-- Settles O1: the decoder reads the fields, which make up the word, and the code tables are one to one. -/
theorem decodeInvertsEncode : Obligations.DecodeInvertsEncode :=
  ⟨fun _ _ => decode_eq_some_iff, fun _ => decode_eq_none_iff, fun i => append_fields_eq_or i.alg.code i.op.code,
    by decide, by decide, by decide⟩

/-- Settles O2: the table lists the word of every command, and only those decode. -/
theorem legalWordsAreTheTable : Obligations.LegalWordsAreTheTable := fun _ _ => decode_eq_some_iff.trans mem_tableWords_iff.symm

/-- Settles O4: the word is issued in its step, and the issue of an illegal word is its rejection. -/
theorem illegalWordIsRejected : Obligations.IllegalWordIsRejected := by
  refine ⟨fun s w rest hb hin hw => ?_, by decide⟩
  rw [step_of_cmd_written hb hin, issue_of_illegalWord hw]

/-- Settles O3, word by word. -/
theorem sampleWordsDecode : Obligations.SampleWordsDecode := by
  unfold Obligations.SampleWordsDecode
  decide

end Sys2Proof.Proofs
end

section
/-! The byte order conversions: appending a byte to a word makes it lane 0 and lifts every other lane by one, so a store gives back the bytes of its load;
neighbouring lanes append to what they were cut from, so a load gives back the word of its store (R91 to R97, R99). -/

namespace Sys2Proof.Machine

variable {w : Nat} (x : BitVec w) (b : Byte) (n : Nat)

@[simp] theorem lane_zero_append : lane (x ++ b) 0 = b := BitVec.extractLsb'_append_eq_right

@[simp] theorem lane_succ_append : lane (x ++ b) (n + 1) = lane x n := BitVec.extractLsb'_append_eq_of_le (by omega)

/-- The only lane of a byte. -/
@[simp] theorem lane_zero_byte : lane b 0 = b := BitVec.extractLsb'_eq_self

/-- The lanes of a word cut out of another at a byte boundary. -/
theorem lane_extractLsb' (m : Nat) {len : Nat} (h : 8 * (n + 1) ≤ len) : lane (x.extractLsb' (8 * m) len) n = lane x (m + n) := by
  ext i hi
  simp [lane, Nat.mul_add, Nat.add_assoc, show 8 * n + i < len by omega]

/-- The next lane down, appended to a cut, lengthens the cut. -/
theorem extractLsb'_append_lane (len : Nat) : x.extractLsb' (8 * (n + 1)) len ++ lane x n = x.extractLsb' (8 * n) (len + 8) :=
  BitVec.extractLsb'_append_extractLsb'_eq_extractLsb' rfl

/-- The little-endian conversions are the big-endian ones on the reversed bytes (R99 (b)). -/
theorem ldLe32_eq_ldBe32_reverse {b : List Byte} (h : b.length = 4) : ldLe32 b = ldBe32 b.reverse := by
  match b, h with
  | [_, _, _, _], _ => rfl

theorem stLe32_eq_reverse_stBe32 (v : Word32) : stLe32 v = (stBe32 v).reverse := rfl

theorem stBe32_ldBe32 {b : List Byte} (h : b.length = 4) : stBe32 (ldBe32 b) = b := by
  match b, h with
  | [_, _, _, _], _ => simp [stBe32, ldBe32, byteAt]

theorem stBe64_ldBe64 {b : List Byte} (h : b.length = 8) : stBe64 (ldBe64 b) = b := by
  match b, h with
  | [_, _, _, _, _, _, _, _], _ => simp [stBe64, ldBe64, byteAt]

theorem ldBe32_stBe32 (v : Word32) : ldBe32 (stBe32 v) = v := by
  calc ldBe32 (stBe32 v) = v.extractLsb' (8 * 3) 8 ++ lane v 2 ++ lane v 1 ++ lane v 0 := rfl
    _ = v.extractLsb' 0 32 := by simp only [extractLsb'_append_lane]
    _ = v := BitVec.extractLsb'_eq_self

theorem ldBe64_stBe64 (v : Word64) : ldBe64 (stBe64 v) = v := by
  calc ldBe64 (stBe64 v) =
      v.extractLsb' (8 * 7) 8 ++ lane v 6 ++ lane v 5 ++ lane v 4 ++ lane v 3 ++ lane v 2 ++ lane v 1 ++ lane v 0 := rfl
    _ = v.extractLsb' 0 64 := by simp only [extractLsb'_append_lane]
    _ = v := BitVec.extractLsb'_eq_self

theorem stLe32_ldLe32 {b : List Byte} (h : b.length = 4) : stLe32 (ldLe32 b) = b := by
  rw [stLe32_eq_reverse_stBe32, ldLe32_eq_ldBe32_reverse h, stBe32_ldBe32 (by simpa using h), List.reverse_reverse]

theorem ldLe32_stLe32 (v : Word32) : ldLe32 (stLe32 v) = v := by
  rw [ldLe32_eq_ldBe32_reverse (stLe32_length v), stLe32_eq_reverse_stBe32, List.reverse_reverse, ldBe32_stBe32]

/-- R91's form of the load. -/
theorem ldBe32_eq_or (b0 b1 b2 b3 : Byte) :
    ldBe32 [b0, b1, b2, b3] = b0.setWidth 32 <<< 24 ||| b1.setWidth 32 <<< 16 ||| b2.setWidth 32 <<< 8 ||| b3.setWidth 32 :=
  (BitVec.setWidth_eq _).symm.trans BitVec.setWidth_append_append_append_eq_shiftLeft_setWidth_or

/-- R93's form of the load. -/
theorem ldBe64_eq_or (b0 b1 b2 b3 b4 b5 b6 b7 : Byte) : ldBe64 [b0, b1, b2, b3, b4, b5, b6, b7] =
    b0.setWidth 64 <<< 56 ||| b1.setWidth 64 <<< 48 ||| b2.setWidth 64 <<< 40 ||| b3.setWidth 64 <<< 32 |||
    b4.setWidth 64 <<< 24 ||| b5.setWidth 64 <<< 16 ||| b6.setWidth 64 <<< 8 ||| b7.setWidth 64 := by
  refine (BitVec.setWidth_eq _).symm.trans ?_
  simp only [ldBe64, BitVec.setWidth_append_eq_shiftLeft_setWidth_or, BitVec.shiftLeft_or_distrib, ← BitVec.shiftLeft_add]
  rfl

/-- The low 32-bit word first (R97). -/
theorem stLe64_eq_append (v : Word64) : stLe64 v = stLe32 (v.extractLsb' 0 32) ++ stLe32 (v.extractLsb' 32 32) := by
  have hlow : ∀ n < 4, lane (v.extractLsb' 0 32) n = lane v n := fun n hn => by
    simpa using lane_extractLsb' v n 0 (len := 32) (by omega)
  have hhigh : ∀ n < 4, lane (v.extractLsb' 32 32) n = lane v (4 + n) := fun n hn => lane_extractLsb' v n 4 (by omega)
  simp [stLe64, stLe32, hlow, hhigh]

end Sys2Proof.Machine
end

section
/-! The first words of a schedule are the words of the block: a word is computed from the ones before it and changes none of them (R98, R101 to R104). -/

namespace Sys2Proof.Machine

variable {w : Nat}

@[simp] theorem loadWords_length (load : List Byte → BitVec w) (size n : Nat) (b : List Byte) : (loadWords load size n b).length = n := by
  induction n generalizing b with
  | zero => rfl
  | succ n ih => exact congrArg (· + 1) (ih _)

theorem loadWords_getD (load : List Byte → BitVec w) (size : Nat) {n i : Nat} (b : List Byte) (h : i < n) :
    (loadWords load size n b).getD i 0 = load (b.drop (size * i)) := by
  induction n generalizing b i with
  | zero => omega
  | succ n ih =>
    cases i with
    | zero => rfl
    | succ i => rw [loadWords, List.getD_cons_succ, ih _ (by omega), List.drop_drop, Nat.mul_succ, Nat.add_comm]

theorem suffix_expand (next : List (BitVec w) → BitVec w) (n : Nat) (r : List (BitVec w)) : r <:+ expand next n r := by
  induction n generalizing r with
  | zero => exact List.suffix_rfl
  | succ n ih => exact (List.suffix_cons _ _).trans (ih _)

/-- Turned round, oldest word first, a schedule begins with the words it was extended from. -/
theorem expand_reverse_getD (next : List (BitVec w) → BitVec w) (n : Nat) {l : List (BitVec w)} {i : Nat} (h : i < l.length) :
    (expand next n l.reverse).reverse.getD i 0 = l.getD i 0 := by
  obtain ⟨new, hnew⟩ := suffix_expand next n l.reverse
  rw [← hnew, List.reverse_append, List.reverse_reverse, List.getD_append _ _ _ _ h]

/-- Word `i` of an expanded block, below the words the block holds. -/
theorem expand_loadWords_getD (next : List (BitVec w) → BitVec w) (load : List Byte → BitVec w) (size n : Nat) (blk : List Byte) {i k : Nat}
    (h : i < k) : (expand next n (loadWords load size k blk).reverse).reverse.getD i 0 = load (blk.drop (size * i)) := by
  rw [expand_reverse_getD next n (by simpa using h), loadWords_getD load size blk h]

end Sys2Proof.Machine
end

section
namespace Sys2Proof.Proofs

open Sys2Proof.Machine

/-- Settles O6: each store and its load are inverse, and the little-endian pair is the big-endian one on the reversed bytes. -/
theorem byteOrderRoundTrips : Obligations.ByteOrderRoundTrips :=
  ⟨fun _ => rfl, fun _ => rfl, fun _ => rfl,
    fun _ h => ⟨stBe32_ldBe32 h, stLe32_ldLe32 h, ldLe32_eq_ldBe32_reverse h⟩, fun _ => stBe64_ldBe64,
    fun v => ⟨ldBe32_stBe32 v, ldLe32_stLe32 v⟩, ldBe64_stBe64, by decide, by decide, by decide, by decide, by decide⟩

/-- Settles O7: expansion leaves the words of the block in place, and the other two selections are R98's own, algorithm by algorithm. -/
theorem algorithmByteOrders : Obligations.AlgorithmByteOrders := by
  refine ⟨fun blk i hi => ⟨?sha1, ?sha256, ?sha512, ?rmd160⟩, fun v => ⟨rfl, rfl, rfl, rfl⟩,
    fun h0 h1 h2 h3 h4 h5 h6 h7 => ⟨rfl, rfl, rfl, rfl⟩, by decide, by decide, by decide, by decide⟩
  case sha1 => exact expand_loadWords_getD _ _ _ _ blk hi
  case sha256 => exact expand_loadWords_getD _ _ _ _ blk hi
  case sha512 => exact expand_loadWords_getD _ _ _ _ blk hi
  case rmd160 => exact loadWords_getD _ _ blk hi

/-- Settles O5: each load appends its bytes in the order of their weight; the little-endian load is the big-endian one read backwards. -/
theorem byteOrderConversions : Obligations.ByteOrderConversions :=
  ⟨ldBe32_eq_or, fun b0 b1 b2 b3 => ldBe32_eq_or b3 b2 b1 b0, ldBe64_eq_or, fun _ => rfl, stLe64_eq_append,
    by decide, by decide, by decide, by decide⟩

end Sys2Proof.Proofs
end

section
/-! Every schedule word after the words of the block is computed from the words before it (R101 to R103). -/

namespace Sys2Proof.Machine

variable {w : Nat} (next : List (BitVec w) → BitVec w)

@[simp] theorem expand_length (n : Nat) (r : List (BitVec w)) : (expand next n r).length = n + r.length := by
  induction n generalizing r with
  | zero => simp [expand]
  | succ n ih => simp [expand, ih, Nat.add_comm, Nat.add_left_comm]

/-- Oldest word first, a word that was added is `next` of the words before it. -/
theorem expand_reverse_getD_of_le {n : Nat} {r : List (BitVec w)} {t : Nat} (hr : r.length ≤ t) (ht : t < n + r.length) :
    (expand next n r).reverse.getD t 0 = next ((expand next n r).reverse.take t).reverse := by
  induction n generalizing r with
  | zero => omega
  | succ n ih =>
    obtain rfl | hlt := hr.eq_or_lt
    · obtain ⟨new, hnew⟩ := suffix_expand next n (next r :: r)
      rw [expand, ← hnew]
      simp
    · exact ih hlt (by simp only [List.length_cons]; omega)

/-- `W[t-k]`, seen from the words before `W[t]`. -/
theorem back_reverse_take {l : List (BitVec w)} {t k : Nat} (hk : 0 < k) (hkt : k ≤ t) (ht : t ≤ l.length) :
    back (l.take t).reverse k = l.getD (t - k) 0 := by
  have hlen : (l.take t).length = t := List.length_take_of_le ht
  rw [back, List.getD_reverse _ (by omega), hlen, List.getD_eq_getElem?_getD, List.getD_eq_getElem?_getD, List.getElem?_take_of_lt (by omega)]
  congr 2
  omega

theorem back_replicate_zero (m k : Nat) : back (List.replicate m (0 : BitVec w)) k = 0 := List.getElem?_getD_replicate_default_eq ..

theorem byteAt_replicate_zero (m i : Nat) : byteAt (List.replicate m 0) i = 0 := List.getElem?_getD_replicate_default_eq ..

/-- Zero words stay zero when `next` takes them to zero. -/
theorem expand_replicate_zero {next : List (BitVec w) → BitVec w} (hnext : ∀ m, next (List.replicate m 0) = 0) (n m : Nat) :
    expand next n (List.replicate m 0) = List.replicate (n + m) 0 := by
  induction n generalizing m with
  | zero => simp [expand]
  | succ n ih => rw [expand, hnext, ← List.replicate_succ, ih, Nat.add_right_comm, Nat.add_assoc]

theorem loadWords_replicate_zero {load : List Byte → BitVec w} (hload : ∀ m, load (List.replicate m 0) = 0) (size n m : Nat) :
    loadWords load size n (List.replicate m 0) = List.replicate n 0 := by
  induction n generalizing m with
  | zero => rfl
  | succ n ih => rw [loadWords, hload, List.drop_replicate, ih, List.replicate_succ]

/-- The all-zero block has the all-zero schedule (R106 (d)). -/
theorem schedule_replicate_zero {next : List (BitVec w) → BitVec w} {load : List Byte → BitVec w} (hnext : ∀ m, next (List.replicate m 0) = 0)
    (hload : ∀ m, load (List.replicate m 0) = 0) (size n k m : Nat) :
    (expand next n (loadWords load size k (List.replicate m 0)).reverse).reverse = List.replicate (n + k) 0 := by
  rw [loadWords_replicate_zero hload, List.reverse_replicate, expand_replicate_zero hnext, List.reverse_replicate]

theorem ldBe32_replicate_zero (m : Nat) : ldBe32 (List.replicate m 0) = 0 := by
  simp only [ldBe32, byteAt_replicate_zero]
  decide

theorem ldBe64_replicate_zero (m : Nat) : ldBe64 (List.replicate m 0) = 0 := by
  simp only [ldBe64, byteAt_replicate_zero]
  decide

theorem sha1Next_replicate_zero (m : Nat) : sha1Next (List.replicate m 0) = 0 := by
  simp only [sha1Next, back_replicate_zero]
  decide

theorem sha256Next_replicate_zero (m : Nat) : sha256Next (List.replicate m 0) = 0 := by
  simp only [sha256Next, back_replicate_zero]
  decide

theorem sha512Next_replicate_zero (m : Nat) : sha512Next (List.replicate m 0) = 0 := by
  simp only [sha512Next, back_replicate_zero]
  decide

end Sys2Proof.Machine
end

section
/-! The schedules of the four algorithms: how many words, and the word at each index (R101 to R104). -/

namespace Sys2Proof.Machine

variable (blk : List Byte) {t : Nat}

@[simp] theorem mseSha1_length : (mseSha1 blk).length = 80 := by simp [mseSha1]

@[simp] theorem mseSha256_length : (mseSha256 blk).length = 64 := by simp [mseSha256]

@[simp] theorem mseSha512_length : (mseSha512 blk).length = 80 := by simp [mseSha512]

@[simp] theorem mseRmd160_length : (mseRmd160 blk).length = 16 := loadWords_length ..

theorem mseSha1_getD_of_lt (h : t < 16) : (mseSha1 blk).getD t 0 = ldBe32 (blk.drop (4 * t)) := expand_loadWords_getD _ _ _ _ blk h

theorem mseSha256_getD_of_lt (h : t < 16) : (mseSha256 blk).getD t 0 = ldBe32 (blk.drop (4 * t)) := expand_loadWords_getD _ _ _ _ blk h

theorem mseSha512_getD_of_lt (h : t < 16) : (mseSha512 blk).getD t 0 = ldBe64 (blk.drop (8 * t)) := expand_loadWords_getD _ _ _ _ blk h

theorem mseRmd160_getD (h : t < 16) : (mseRmd160 blk).getD t 0 = ldLe32 (blk.drop (4 * t)) := loadWords_getD _ _ blk h

/-- The recurrence of R101. -/
theorem mseSha1_getD_of_le (h16 : 16 ≤ t) (h80 : t < 80) : (mseSha1 blk).getD t 0 =
    rotl ((mseSha1 blk).getD (t - 3) 0 ^^^ (mseSha1 blk).getD (t - 8) 0 ^^^ (mseSha1 blk).getD (t - 14) 0 ^^^ (mseSha1 blk).getD (t - 16) 0) 1 := by
  have hlen := mseSha1_length blk
  calc (mseSha1 blk).getD t 0 = sha1Next ((mseSha1 blk).take t).reverse := expand_reverse_getD_of_le _ (by simpa using h16) (by simpa using h80)
    _ = _ := by simp (disch := omega) only [sha1Next, back_reverse_take]

/-- The recurrence of R102. -/
theorem mseSha256_getD_of_le (h16 : 16 ≤ t) (h64 : t < 64) : (mseSha256 blk).getD t 0 =
    ssig1_256 ((mseSha256 blk).getD (t - 2) 0) + (mseSha256 blk).getD (t - 7) 0 +
      ssig0_256 ((mseSha256 blk).getD (t - 15) 0) + (mseSha256 blk).getD (t - 16) 0 := by
  have hlen := mseSha256_length blk
  calc (mseSha256 blk).getD t 0 = sha256Next ((mseSha256 blk).take t).reverse :=
        expand_reverse_getD_of_le _ (by simpa using h16) (by simpa using h64)
    _ = _ := by simp (disch := omega) only [sha256Next, back_reverse_take]

/-- The recurrence of R103. -/
theorem mseSha512_getD_of_le (h16 : 16 ≤ t) (h80 : t < 80) : (mseSha512 blk).getD t 0 =
    ssig1_512 ((mseSha512 blk).getD (t - 2) 0) + (mseSha512 blk).getD (t - 7) 0 +
      ssig0_512 ((mseSha512 blk).getD (t - 15) 0) + (mseSha512 blk).getD (t - 16) 0 := by
  have hlen := mseSha512_length blk
  calc (mseSha512 blk).getD t 0 = sha512Next ((mseSha512 blk).take t).reverse :=
        expand_reverse_getD_of_le _ (by simpa using h16) (by simpa using h80)
    _ = _ := by simp (disch := omega) only [sha512Next, back_reverse_take]

end Sys2Proof.Machine
end

section
/-! Loads and rotations are linear over exclusive or, bit by bit, and with them the SHA1 schedule (R106 (c)). -/

namespace Sys2Proof.Machine

variable {a b : List Byte}

theorem rotl_xor {n : Nat} (x y : BitVec n) (k : Nat) : rotl (x ^^^ y) k = rotl x k ^^^ rotl y k := by
  ext i hi
  by_cases hk : i < k
  · simp [rotl, hk]
  · have hhigh : n ≤ n - k + i := by omega
    simp [rotl, hk, hhigh]

theorem byteAt_xorBytes (h : a.length = b.length) (i : Nat) : byteAt (xorBytes a b) i = byteAt a i ^^^ byteAt b i := by
  rw [byteAt, byteAt, byteAt, xorBytes]
  obtain hi | hi := Nat.lt_or_ge i a.length
  · simp [List.getElem?_zipWith, List.getElem?_eq_getElem hi, List.getElem?_eq_getElem (h ▸ hi)]
  · simp [List.getElem?_zipWith, List.getElem?_eq_none hi, List.getElem?_eq_none (h ▸ hi)]

theorem ldBe32_xorBytes (h : a.length = b.length) : ldBe32 (xorBytes a b) = ldBe32 a ^^^ ldBe32 b := by
  simp only [ldBe32, byteAt_xorBytes h, ← BitVec.xor_append]

theorem drop_xorBytes (n : Nat) : (xorBytes a b).drop n = xorBytes (a.drop n) (b.drop n) := List.drop_zipWith

/-- Each word from `W[16]` on inherits linearity from the four words it is computed from. -/
theorem mseSha1_xorBytes_getD (h : a.length = b.length) (t : Nat) :
    (mseSha1 (xorBytes a b)).getD t 0 = (mseSha1 a).getD t 0 ^^^ (mseSha1 b).getD t 0 := by
  induction t using Nat.strongRecOn with
  | ind t ih =>
    obtain hload | h16 := Nat.lt_or_ge t 16
    · have hdrop : (a.drop (4 * t)).length = (b.drop (4 * t)).length := by simp [h]
      simp only [mseSha1_getD_of_lt _ hload, drop_xorBytes, ldBe32_xorBytes hdrop]
    obtain h80 | hend := Nat.lt_or_ge t 80
    · simp only [mseSha1_getD_of_le _ h16 h80]
      rw [ih (t - 3) (by omega), ih (t - 8) (by omega), ih (t - 14) (by omega), ih (t - 16) (by omega), ← rotl_xor]
      ac_rfl
    · have hzero : ∀ blk, (mseSha1 blk).getD t 0 = 0 := fun blk => List.getD_eq_default _ _ (by simpa using hend)
      rw [hzero, hzero, hzero]
      exact BitVec.xor_self.symm

end Sys2Proof.Machine
end

section
namespace Sys2Proof.Proofs

open Sys2Proof.Machine Sys2Proof.Statement

/-- Settles O8: loads and recurrence are the expander's; the zero block is a fixed point of it, and the other values are evaluated. -/
theorem sha1ScheduleRecurrence : Obligations.Sha1ScheduleRecurrence :=
  ⟨fun blk => ⟨mseSha1_length blk, fun _ => mseSha1_getD_of_lt blk, fun _ => mseSha1_getD_of_le blk⟩,
    schedule_replicate_zero sha1Next_replicate_zero ldBe32_replicate_zero 4 64 16 64,
    by decide, by decide, by decide, by decide, by decide, by decide, by decide, by decide +kernel⟩

/-- Settles O9, as O8 with the sum of R102; the rule's rotations and shift are the definitions of the two sigma functions. -/
theorem sha256ScheduleRecurrence : Obligations.Sha256ScheduleRecurrence :=
  ⟨fun blk => ⟨mseSha256_length blk, fun _ => mseSha256_getD_of_lt blk, fun _ => mseSha256_getD_of_le blk⟩,
    schedule_replicate_zero sha256Next_replicate_zero ldBe32_replicate_zero 4 48 16 64,
    by decide, by decide, by decide, by decide, by decide, by decide, by decide +kernel⟩

/-- Settles O10, as O9 on 64-bit words. -/
theorem sha512ScheduleRecurrence : Obligations.Sha512ScheduleRecurrence :=
  ⟨fun blk => ⟨mseSha512_length blk, fun _ => mseSha512_getD_of_lt blk, fun _ => mseSha512_getD_of_le blk⟩,
    schedule_replicate_zero sha512Next_replicate_zero ldBe64_replicate_zero 8 64 16 128,
    by decide, by decide, by decide, by decide, by decide, by decide, by decide +kernel⟩

/-- Settles O12, word by word. -/
theorem sha1ScheduleIsLinear : Obligations.Sha1ScheduleIsLinear :=
  fun _ _ t ha hb => mseSha1_xorBytes_getD (ha.trans hb.symm) t

/-- Settles O11: the schedule is the loads. -/
theorem rmd160ScheduleIsTheBlock : Obligations.Rmd160ScheduleIsTheBlock :=
  ⟨fun blk => ⟨mseRmd160_length blk, fun _ => mseRmd160_getD blk⟩, by decide, by decide, by decide⟩

end Sys2Proof.Proofs
end

section
namespace Sys2Proof.Proofs

/-- Settles O13: the eight engine runs are closed, and the kernel evaluates each; first the all-ones inputs, then the zero block from the initial values. -/
theorem engineCornerCases : Obligations.EngineCornerCases :=
  ⟨⟨by decide +kernel, by decide +kernel, by decide +kernel⟩, by decide +kernel,
    by decide +kernel, by decide +kernel, by decide +kernel, by decide +kernel⟩

end Sys2Proof.Proofs
end

section
/-! The final blocks of R152 to R154, joined: the tail, the marker, as many zero bytes as reach a block boundary before the length field, and that field. -/

namespace Sys2Proof.Machine

variable (alg : Alg) {tail : List Byte} {total : Nat}

theorem blockBytes_pos : 0 < alg.blockBytes := by cases alg <;> decide

@[simp] theorem totalField_length : (totalField alg total).length = alg.lengthBytes := lengthField_length _ _

theorem finalBlocks_of_lt (tail : List Byte) (h : total % alg.blockBytes < alg.blockBytes - alg.lengthBytes) : finalBlocks alg tail total =
    [tail ++ [0x80] ++ zeros (alg.blockBytes - alg.lengthBytes - total % alg.blockBytes - 1) ++ totalField alg total] :=
  if_neg (Nat.not_le.2 h)

theorem finalBlocks_of_le (tail : List Byte) (h : alg.blockBytes - alg.lengthBytes ≤ total % alg.blockBytes) : finalBlocks alg tail total =
    [tail ++ [0x80] ++ zeros (alg.blockBytes - total % alg.blockBytes - 1), zeros (alg.blockBytes - alg.lengthBytes) ++ totalField alg total] :=
  if_pos h

/-- One final block where the marker and the field fit after the tail, else two (R152). -/
theorem finalBlocks_length (tail : List Byte) (total : Nat) :
    (finalBlocks alg tail total).length = if total % alg.blockBytes < alg.blockBytes - alg.lengthBytes then 1 else 2 := by
  split
  case isTrue hfits => simp [finalBlocks_of_lt alg tail hfits]
  case isFalse hfull => simp [finalBlocks_of_le alg tail (Nat.le_of_not_lt hfull)]

/-- The zero bytes between the marker and the length field, the fewest that end the field on a block boundary (R155). -/
def fillBytes (alg : Alg) (total : Nat) : Nat := (2 * alg.blockBytes - 1 - alg.lengthBytes - total % alg.blockBytes) % alg.blockBytes

theorem fillBytes_lt (total : Nat) : fillBytes alg total < alg.blockBytes := Nat.mod_lt _ (blockBytes_pos alg)

/-- The marker and the field fit after the tail: the fill ends in the same block. -/
theorem fillBytes_of_lt (h : total % alg.blockBytes < alg.blockBytes - alg.lengthBytes) :
    fillBytes alg total = alg.blockBytes - alg.lengthBytes - total % alg.blockBytes - 1 := by
  cases alg <;> simp only [fillBytes, Alg.blockBytes, Alg.lengthBytes] at * <;> omega

/-- The field does not fit after the tail: the fill ends this block and fills the next up to the field. -/
theorem fillBytes_of_le (h : alg.blockBytes - alg.lengthBytes ≤ total % alg.blockBytes) :
    fillBytes alg total = alg.blockBytes - total % alg.blockBytes - 1 + (alg.blockBytes - alg.lengthBytes) := by
  cases alg <;> simp only [fillBytes, Alg.blockBytes, Alg.lengthBytes] at * <;> omega

theorem flatten_finalBlocks (tail : List Byte) (total : Nat) :
    (finalBlocks alg tail total).flatten = tail ++ [0x80] ++ zeros (fillBytes alg total) ++ totalField alg total := by
  obtain hfits | hfull := Nat.lt_or_ge (total % alg.blockBytes) (alg.blockBytes - alg.lengthBytes)
  · simp [finalBlocks_of_lt alg tail hfits, fillBytes_of_lt alg hfits]
  · simp [finalBlocks_of_le alg tail hfull, fillBytes_of_le alg hfull, zeros, ← List.replicate_append_replicate]

theorem length_of_mem_finalBlocks (htail : tail.length = total % alg.blockBytes) {b : List Byte} (hb : b ∈ finalBlocks alg tail total) :
    b.length = alg.blockBytes := by
  have hrem : total % alg.blockBytes < alg.blockBytes := Nat.mod_lt _ (blockBytes_pos alg)
  have hfield : alg.lengthBytes ≤ alg.blockBytes := by cases alg <;> decide
  obtain hfits | hfull := Nat.lt_or_ge (total % alg.blockBytes) (alg.blockBytes - alg.lengthBytes)
  · rw [finalBlocks_of_lt alg tail hfits, List.mem_singleton] at hb
    simp [hb, zeros, htail]
    omega
  · rw [finalBlocks_of_le alg tail hfull, List.mem_pair] at hb
    obtain rfl | rfl := hb
    · simp [zeros, htail]
      omega
    · simp [zeros, Nat.sub_add_cancel hfield]

end Sys2Proof.Machine
end

section
/-! The engine over the blocks of a byte sequence: cutting off whole blocks from the front, as the loop of R158 does, comes to the same. -/

namespace Sys2Proof.Machine

open Sys2Proof.Statement

variable (alg : Alg)

theorem blocksOf_append {n : Nat} (hn : 0 < n) {b : List Byte} (hb : b.length = n) (rest : List Byte) :
    blocksOf n (b ++ rest) = b :: blocksOf n rest := by
  have hcount : (b ++ rest).length / n = rest.length / n + 1 := by
    rw [List.length_append, hb, Nat.add_div_left _ hn]
  have htail : ∀ i, (b ++ rest).drop ((i + 1) * n) = rest.drop (i * n) := fun i => by
    rw [Nat.succ_mul, Nat.add_comm, ← hb, List.drop_length_add_append]
  rw [blocksOf, hcount, List.range_succ_eq_map]
  simp [blocksOf, htail, List.take_left' hb]

/-- A sequence joined from blocks consists of these blocks. -/
theorem blocksOf_flatten {n : Nat} (hn : 0 < n) {bs : List (List Byte)} (hbs : ∀ b ∈ bs, b.length = n) : blocksOf n bs.flatten = bs := by
  induction bs with
  | nil => simp [blocksOf]
  | cons b bs ih =>
    rw [List.forall_mem_cons] at hbs
    rw [List.flatten_cons, blocksOf_append hn hbs.1, ih hbs.2]

/-- The loop over the first `q` blocks of `m` leaves the blocks of the rest to be compressed, whatever follows `m`. -/
theorem foldl_engine_blocksOf (rest : List Byte) {q : Nat} {m : List Byte} (hq : q * alg.blockBytes ≤ m.length) (h : Vector Word64 8) :
    (blocksOf alg.blockBytes (m ++ rest)).foldl (engine alg) h =
      (blocksOf alg.blockBytes (m.drop (q * alg.blockBytes) ++ rest)).foldl (engine alg) (compressBlocks alg q m h) := by
  induction q generalizing m h with
  | zero => simp [compressBlocks]
  | succ q ih =>
    rw [Nat.succ_mul] at hq
    have hsplit : m ++ rest = m.take alg.blockBytes ++ (m.drop alg.blockBytes ++ rest) := by
      rw [← List.append_assoc, List.take_append_drop]
    rw [hsplit, blocksOf_append (blockBytes_pos alg) (List.length_take_of_le (by omega)), List.foldl_cons,
      ih (by rw [List.length_drop]; omega), List.drop_drop, Nat.succ_mul, Nat.add_comm]
    rfl

/-- The padding of R155, in the terms of the final blocks. -/
theorem paddedMessage_eq (m : List Byte) :
    paddedMessage alg m = m ++ ([0x80] ++ zeros (fillBytes alg m.length) ++ totalField alg m.length) := by
  simp [paddedMessage, zeros, fillBytes, totalField]

theorem length_paddedMessage_mod (m : List Byte) : (paddedMessage alg m).length % alg.blockBytes = 0 := by
  cases alg <;> simp [paddedMessage_eq, zeros, fillBytes, Alg.blockBytes, Alg.lengthBytes] <;> omega

theorem length_drop_wholeBlocks (m : List Byte) : (m.drop (m.length / alg.blockBytes * alg.blockBytes)).length = m.length % alg.blockBytes := by
  rw [List.length_drop, Nat.mod_eq_sub_div_mul]

/-- R158 over the padded message of R155. -/
theorem digestState_eq_foldl_engine (m : List Byte) :
    digestState alg m = (blocksOf alg.blockBytes (paddedMessage alg m)).foldl (engine alg) (initialBank alg) := by
  have hblocks : ∀ b ∈ finalBlocks alg (m.drop (m.length / alg.blockBytes * alg.blockBytes)) m.length, b.length = alg.blockBytes :=
    fun _ => length_of_mem_finalBlocks alg (length_drop_wholeBlocks alg m)
  rw [paddedMessage_eq, foldl_engine_blocksOf alg _ (Nat.div_mul_le_self m.length alg.blockBytes), ← List.append_assoc, ← List.append_assoc,
    ← flatten_finalBlocks, blocksOf_flatten (blockBytes_pos alg) hblocks]
  rfl

end Sys2Proof.Machine
end

section
/-! The checks of R213 for a command other than PBKDF: only whether a region runs past the top of the address space. -/

namespace Sys2Proof.Machine

open Sys2Proof.Statement

variable {op : Op} {alg : Alg} {i : Instr} {s : State}

theorem issueCheck_of_fits (hop : op ≠ .pbkdf) (h : ∀ r ∈ inputRegions op s ++ [outputRegion op alg s], r.1 + r.2 ≤ 2 ^ 32) :
    issueCheck op alg s = none := by
  have hwraps : (inputRegions op s ++ [outputRegion op alg s]).any regionWraps = false :=
    List.any_eq_false.2 fun r hr => by rw [regionWraps_iff]; exact Nat.not_lt.2 (h r hr)
  rw [issueCheck, hwraps]
  simp [hop]

theorem issueCheck_of_wraps (hop : op ≠ .pbkdf) (h : ∃ r ∈ inputRegions op s ++ [outputRegion op alg s], 2 ^ 32 < r.1 + r.2) :
    issueCheck op alg s = some .addr := by
  obtain ⟨r, hr, hlt⟩ := h
  have hwraps : (inputRegions op s ++ [outputRegion op alg s]).any regionWraps = true :=
    List.any_eq_true.2 ⟨r, hr, (regionWraps_iff r).2 hlt⟩
  rw [issueCheck, hwraps]
  simp [hop]

/-- The completed DIGEST (R159, R214, R215). -/
theorem effectDone_of_digest (hop : i.op = .digest) : effectDone i s = finished (encode i) (cleared { s with
    mem := writeBytes s.mem s.dst.toNat (digest i.alg (readBytes s.mem s.src.toNat s.len.toNat)) }) := by
  rw [effectDone, hop]
  rfl

end Sys2Proof.Machine
end

section
namespace Sys2Proof.Proofs

open Sys2Proof.Machine Sys2Proof.Statement

/-- Settles O15: with `fillBytes` zero bytes, in each of the two cases of R152. -/
theorem finalBlocksAreThePaddedTail : Obligations.FinalBlocksAreThePaddedTail := by
  intro alg tail total htail
  refine ⟨fun _ => length_of_mem_finalBlocks alg htail, ?_, fillBytes alg total, fillBytes_lt alg total, flatten_finalBlocks alg tail total⟩
  rw [htail, finalBlocks_length]

/-- Settles O16: the final blocks joined are the end of the padded message, and cutting it into blocks gives them back. -/
theorem digestIsEngineOverPaddedMessage : Obligations.DigestIsEngineOverPaddedMessage :=
  fun alg m => ⟨length_paddedMessage_mod alg m, congrArg (stateBytes alg) (digestState_eq_foldl_engine alg m)⟩

/-- Settles O17: a digest is a serialised state, a code a digest, and the truncated output blocks add up to the length asked for. -/
theorem outputLengths : Obligations.OutputLengths := ⟨digest_length, macBytes_length, kdfBytes_length⟩

/-- Settles O26: the two regions are the message and the HL bytes at DST, and R213 asks only that neither wraps. -/
theorem digestWritesTheDigest : Obligations.DigestWritesTheDigest := by
  constructor
  · intro s i hop hsrc hdst
    have hcheck : issueCheck i.op i.alg s = none := issueCheck_of_fits (by simp [hop]) (by
      simpa [hop, inputRegions, outputRegion, sourceRegion] using ⟨hsrc, hdst⟩)
    rw [exec_eq_effectDone hcheck, effectDone_of_digest hop]
  · intro s i hop hwraps
    have hcheck : issueCheck i.op i.alg s = some .addr := issueCheck_of_wraps (by simp [hop]) (by
      simpa [hop, inputRegions, outputRegion, sourceRegion] using hwraps)
    rw [exec_of_rejected hcheck, reject_eq_rejectedWith]
    rfl

end Sys2Proof.Proofs
end

section
/-! The key block of R171 has exactly BS bytes, and it is all that a code depends on its key by (R172). -/

namespace Sys2Proof.Machine

variable {alg : Alg} {key : List Byte}

/-- R172 (c): a collapsed key fits. -/
theorem digest_length_le_blockBytes (alg : Alg) (m : List Byte) : (digest alg m).length ≤ alg.blockBytes := by
  rw [digest_length]
  cases alg <;> decide

theorem macKeyBlock_of_le (h : key.length ≤ alg.blockBytes) : macKeyBlock alg key = key ++ zeros (alg.blockBytes - key.length) := by
  rw [macKeyBlock, if_neg (Nat.not_lt.2 h)]

theorem macKeyBlock_of_lt (h : alg.blockBytes < key.length) : macKeyBlock alg key = macKeyBlock alg (digest alg key) := by
  rw [macKeyBlock_of_le (digest_length_le_blockBytes alg key), macKeyBlock, if_pos h]

theorem macKeyBlock_append_zeros {n : Nat} (h : key.length + n ≤ alg.blockBytes) : macKeyBlock alg (key ++ zeros n) = macKeyBlock alg key := by
  have hlen : (key ++ zeros n).length = key.length + n := by simp [zeros]
  have hzeros : n + (alg.blockBytes - (key.length + n)) = alg.blockBytes - key.length := by omega
  rw [macKeyBlock_of_le (hlen.trans_le h), macKeyBlock_of_le (Nat.le_of_add_right_le h), hlen, List.append_assoc, zeros, zeros,
    List.replicate_append_replicate, hzeros, zeros]

@[simp] theorem macKeyBlock_length (alg : Alg) (key : List Byte) : (macKeyBlock alg key).length = alg.blockBytes := by
  have hfits : (if alg.blockBytes < key.length then digest alg key else key).length ≤ alg.blockBytes := by
    split
    next => exact digest_length_le_blockBytes alg key
    next hshort => exact Nat.not_lt.1 hshort
  rw [macKeyBlock, List.length_append, zeros, List.length_replicate, Nat.add_sub_cancel' hfits]

theorem macBytes_eq_of_macKeyBlock_eq {key' : List Byte} (h : macKeyBlock alg key = macKeyBlock alg key') (data : List Byte) :
    macBytes alg key data = macBytes alg key' data := by
  rw [macBytes, macBytes, h]

/-- The pads of R171: exclusive or with as many bytes `b` is exclusive or with `b` byte by byte. -/
theorem xorBytes_rep {a : List Byte} {n : Nat} (h : a.length = n) (b : Byte) : xorBytes a (rep b n) = a.map (· ^^^ b) := by
  subst h
  rw [xorBytes, rep, ← List.map_const', List.zipWith_map_right, List.zipWith_self]

theorem macBytes_eq_digest_pads (alg : Alg) (key data : List Byte) : macBytes alg key data =
    digest alg ((macKeyBlock alg key).map (· ^^^ 0x5c) ++ digest alg ((macKeyBlock alg key).map (· ^^^ 0x36) ++ data)) := by
  have hlen := macKeyBlock_length alg key
  rw [macBytes, xorBytes_rep hlen, xorBytes_rep hlen]

/-- The completed HMAC (R173, R214, R215). -/
theorem effectDone_of_hmac {i : Instr} {s : State} (hop : i.op = .hmac) :
    effectDone i s = Statement.finished (encode i) (Statement.cleared { s with
      mem := writeBytes s.mem s.dst.toNat
        (macBytes i.alg (readBytes s.mem s.key.toNat s.keylen.toNat) (readBytes s.mem s.src.toNat s.len.toNat)) }) := by
  rw [effectDone, hop]
  rfl

end Sys2Proof.Machine
end

section
namespace Sys2Proof.Proofs

open Sys2Proof.Machine Sys2Proof.Statement

/-- Settles O18: in each of the two cases the key blocks are equal. -/
theorem macKeyPreparation : Obligations.MacKeyPreparation :=
  ⟨fun _ _ data hlong => macBytes_eq_of_macKeyBlock_eq (macKeyBlock_of_lt hlong) data,
    fun _ _ data _ hfits => macBytes_eq_of_macKeyBlock_eq (macKeyBlock_append_zeros hfits) data⟩

/-- Settles O27: the three regions are the data, the key and the HL bytes at DST, and R213 asks only that none wraps. -/
theorem hmacWritesTheCode : Obligations.HmacWritesTheCode := by
  constructor
  · intro s i hop hsrc hkey hdst
    have hcheck : issueCheck i.op i.alg s = none := issueCheck_of_fits (by simp [hop]) (by
      simpa [hop, inputRegions, outputRegion, sourceRegion, keyRegion] using ⟨hsrc, hkey, hdst⟩)
    rw [exec_eq_effectDone hcheck, effectDone_of_hmac hop]
  · intro s i hop hwraps
    have hcheck : issueCheck i.op i.alg s = some .addr := issueCheck_of_wraps (by simp [hop]) (by
      simpa [hop, inputRegions, outputRegion, sourceRegion, keyRegion] using hwraps)
    rw [exec_of_rejected hcheck, reject_eq_rejectedWith]
    rfl

/-- Settles O28: the key block has BS bytes, as many as either pad. -/
theorem macIsTheKeyedDoubleHash : Obligations.MacIsTheKeyedDoubleHash :=
  fun alg key data => ⟨macKeyBlock_length alg key, macBytes_eq_digest_pads alg key data⟩

end Sys2Proof.Proofs
end

section
/-! The derived key of R182: a block is the exclusive or of its outputs U_1, U_2, …, and the key the blocks in order, cut off after `outlen` bytes. -/

namespace Sys2Proof.Machine

open Sys2Proof.Statement

/-- One more iteration adds the next output, whatever was accumulated before. -/
theorem kdfIterate_succ_kdfOutput (alg : Alg) (pw salt : List Byte) (i n k : Nat) (t : List Byte) :
    kdfIterate alg pw (n + 1) (kdfOutput alg pw salt i k) t =
      xorBytes (kdfIterate alg pw n (kdfOutput alg pw salt i k) t) (kdfOutput alg pw salt i (k + n + 1)) := by
  induction n generalizing k t with
  | zero => rfl
  | succ n ih =>
    have hnext := ih (k + 1) (xorBytes t (kdfOutput alg pw salt i (k + 1)))
    rwa [show k + 1 + n + 1 = k + (n + 1) + 1 by omega] at hnext

variable (alg : Alg) (pw salt : List Byte) (rounds i : Nat)

theorem kdfBlock_one : kdfBlock alg pw salt 1 i = kdfOutput alg pw salt i 0 := rfl

theorem kdfBlock_succ {r : Nat} (hr : 1 ≤ r) :
    kdfBlock alg pw salt (r + 1) i = xorBytes (kdfBlock alg pw salt r i) (kdfOutput alg pw salt i r) := by
  obtain ⟨n, rfl⟩ := Nat.exists_eq_add_of_le' hr
  have hlast := kdfIterate_succ_kdfOutput alg pw salt i n 0 (kdfOutput alg pw salt i 0)
  rwa [Nat.zero_add] at hlast

/-- The first `n` output blocks whole, one after the other. -/
def kdfBlocks (n : Nat) : List Byte := (List.range n).flatMap fun j => kdfBlock alg pw salt rounds (j + 1)

theorem kdfBlocks_succ (n : Nat) : kdfBlocks alg pw salt rounds (n + 1) = kdfBlocks alg pw salt rounds n ++ kdfBlock alg pw salt rounds (n + 1) := by
  simp [kdfBlocks, List.range_succ]

@[simp] theorem kdfBlocks_length (n : Nat) : (kdfBlocks alg pw salt rounds n).length = n * alg.digestBytes := by
  simp [kdfBlocks, List.length_flatMap]

theorem kdfBlocks_prefix {n m : Nat} (h : n ≤ m) : kdfBlocks alg pw salt rounds n <+: kdfBlocks alg pw salt rounds m := by
  induction h with
  | refl => exact List.prefix_rfl
  | step _ ih => exact kdfBlocks_succ alg pw salt rounds _ ▸ ih.trans (List.prefix_append _ _)

/-- Cutting each block where the key ends is cutting all of them there at once. -/
theorem flatMap_truncated_blocks (outlen n : Nat) :
    ((List.range n).flatMap fun j => (kdfBlock alg pw salt rounds (j + 1)).take (min alg.digestBytes (outlen - j * alg.digestBytes))) =
      (kdfBlocks alg pw salt rounds n).take outlen := by
  induction n with
  | zero => simp [kdfBlocks]
  | succ n ih =>
    have hcut (k : Nat) : (kdfBlock alg pw salt rounds (n + 1)).take (min alg.digestBytes k) = (kdfBlock alg pw salt rounds (n + 1)).take k := by
      rw [List.take_eq_take_iff, kdfBlock_length]
      omega
    rw [List.range_succ, List.flatMap_append, ih, List.flatMap_singleton, hcut, kdfBlocks_succ, List.take_append, kdfBlocks_length]

theorem kdfBytes_eq_take_kdfBlocks (outlen : Nat) :
    kdfBytes alg pw salt rounds outlen = (kdfBlocks alg pw salt rounds (ceilDiv outlen alg.digestBytes)).take outlen :=
  flatMap_truncated_blocks alg pw salt rounds outlen _

theorem ceilDiv_mono_left {a b : Nat} (h : a ≤ b) (c : Nat) : ceilDiv a c ≤ ceilDiv b c := Nat.div_le_div_right (by omega)

theorem kdfBytes_eq_take_kdfBytes {a b : Nat} (h : a ≤ b) : kdfBytes alg pw salt rounds a = (kdfBytes alg pw salt rounds b).take a := by
  obtain ⟨rest, hrest⟩ := kdfBlocks_prefix alg pw salt rounds (ceilDiv_mono_left h alg.digestBytes)
  have hlen : a ≤ (kdfBlocks alg pw salt rounds (ceilDiv a alg.digestBytes)).length := by
    rw [kdfBlocks_length]
    exact le_ceilDiv_mul a (digestBytes_pos alg)
  rw [kdfBytes_eq_take_kdfBlocks, kdfBytes_eq_take_kdfBlocks, List.take_take, Nat.min_eq_left h, ← hrest, List.take_append_of_le_length hlen]

end Sys2Proof.Machine
end

section
/-! The four checks of R213 one by one, for every command: the count of rounds first, then the top of the address space, then the shared address. -/

namespace Sys2Proof.Machine

open Sys2Proof.Statement

variable {op : Op} {alg : Alg} {i : Instr} {s : State}

theorem outputMeetsInput_iff : outputMeetsInput s = true ↔ outputSharesAddress s := by
  rw [outputMeetsInput, Bool.or_eq_true, regionsOverlap_iff, regionsOverlap_iff, ← exists_or]
  exact exists_congr fun a => by rw [← and_or_left, and_assoc]; rfl

theorem any_regionWraps_eq_false {rs : List Region} (h : ∀ r ∈ rs, r.1 + r.2 ≤ 2 ^ 32) : rs.any regionWraps = false :=
  List.any_eq_false.2 fun r hr => by rw [regionWraps_iff]; exact Nat.not_lt.2 (h r hr)

theorem any_regionWraps_eq_true {rs : List Region} (h : ∃ r ∈ rs, 2 ^ 32 < r.1 + r.2) : rs.any regionWraps = true := by
  obtain ⟨r, hr, hlt⟩ := h
  exact List.any_eq_true.2 ⟨r, hr, (regionWraps_iff r).2 hlt⟩

theorem issueCheck_eq_rounds (h : op = .pbkdf ∧ s.rounds = 0) : issueCheck op alg s = some .rounds := if_pos h

theorem issueCheck_eq_addr (hrounds : ¬ (op = .pbkdf ∧ s.rounds = 0))
    (hwraps : ∃ r ∈ inputRegions op s ++ [outputRegion op alg s], 2 ^ 32 < r.1 + r.2) : issueCheck op alg s = some .addr := by
  rw [issueCheck, if_neg hrounds, if_pos (any_regionWraps_eq_true hwraps)]

section
variable (hrounds : ¬ (op = .pbkdf ∧ s.rounds = 0)) (hfits : ∀ r ∈ inputRegions op s ++ [outputRegion op alg s], r.1 + r.2 ≤ 2 ^ 32)
include hrounds hfits

theorem issueCheck_eq_overlap (hshares : op = .pbkdf ∧ outputSharesAddress s) : issueCheck op alg s = some .overlap := by
  rw [← outputMeetsInput_iff] at hshares
  rw [issueCheck, if_neg hrounds, any_regionWraps_eq_false hfits, if_neg Bool.false_ne_true, if_pos hshares]

theorem issueCheck_eq_none (hshares : ¬ (op = .pbkdf ∧ outputSharesAddress s)) : issueCheck op alg s = none := by
  rw [← outputMeetsInput_iff] at hshares
  rw [issueCheck, if_neg hrounds, any_regionWraps_eq_false hfits, if_neg Bool.false_ne_true, if_neg hshares]

end

/-- The regions of PBKDF: salt, password and the OUTLEN bytes at DST (R51, R183). -/
theorem pbkdf_regions_fit (hop : op = .pbkdf) (hsalt : s.src.toNat + s.len.toNat ≤ 2 ^ 32) (hpw : s.key.toNat + s.keylen.toNat ≤ 2 ^ 32)
    (hout : s.dst.toNat + s.outlen.toNat ≤ 2 ^ 32) : ∀ r ∈ inputRegions op s ++ [outputRegion op alg s], r.1 + r.2 ≤ 2 ^ 32 := by
  simpa [hop, inputRegions, outputRegion, sourceRegion, keyRegion] using ⟨hsalt, hpw, hout⟩

theorem exec_eq_rejectedWith {c : ErrCode} (h : issueCheck i.op i.alg s = some c) : exec i s = .next (rejectedWith (errValue c) s) := by
  rw [exec_of_rejected h, reject_eq_rejectedWith]

/-- The completed PBKDF (R183, R214, R215). -/
theorem effectDone_of_pbkdf (hop : i.op = .pbkdf) : effectDone i s = finished (encode i) (cleared { s with
    mem := writeBytes s.mem s.dst.toNat (kdfBytes i.alg (readBytes s.mem s.key.toNat s.keylen.toNat)
      (readBytes s.mem s.src.toNat s.len.toNat) s.rounds.toNat s.outlen.toNat) }) := by
  rw [effectDone, hop]
  rfl

end Sys2Proof.Machine
end

section
namespace Sys2Proof.Proofs

open Sys2Proof.Machine Sys2Proof.Statement

/-- Settles O19: a block by its last iteration, the key by cutting the joined blocks once. -/
theorem kdfRoundsAccumulate : Obligations.KdfRoundsAccumulate :=
  ⟨fun alg pw salt i => ⟨kdfBlock_one alg pw salt i, fun _ hr => kdfBlock_succ alg pw salt i hr⟩,
    fun alg pw salt rounds outlen _ => kdfBytes_eq_take_kdfBlocks alg pw salt rounds outlen⟩

/-- Settles O20: the blocks of the shorter key are the first blocks of the longer one. -/
theorem kdfShorterOutputBeginsLonger : Obligations.KdfShorterOutputBeginsLonger :=
  fun alg pw salt rounds _ _ h => kdfBytes_eq_take_kdfBytes alg pw salt rounds h

/-- Settles O29: each clause is one outcome of the checks of R213. -/
theorem pbkdfWritesTheDerivedBytes : Obligations.PbkdfWritesTheDerivedBytes := by
  refine ⟨?completed, ?rounds, ?addr, ?overlap⟩
  case completed =>
    intro s i hop hrounds hsalt hpw hout hshares
    rw [exec_eq_effectDone (issueCheck_eq_none (fun h => hrounds h.2) (pbkdf_regions_fit hop hsalt hpw hout) fun h => hshares h.2), effectDone_of_pbkdf hop]
  case rounds => exact fun s i hop hrounds => exec_eq_rejectedWith (issueCheck_eq_rounds ⟨hop, hrounds⟩)
  case addr =>
    intro s i hop hrounds hwraps
    refine exec_eq_rejectedWith (issueCheck_eq_addr (fun h => hrounds h.2) ?_)
    simpa [hop, inputRegions, outputRegion, sourceRegion, keyRegion, or_left_comm] using hwraps
  case overlap =>
    exact fun s i hop hrounds hsalt hpw hout hshares =>
      exec_eq_rejectedWith (issueCheck_eq_overlap (fun h => hrounds h.2) (pbkdf_regions_fit hop hsalt hpw hout) ⟨hop, hshares⟩)

end Sys2Proof.Proofs
end

section
/-! The unit-level commands, each with its effect written out: INIT, COMPRESS, FINAL and ZEROIZE have no region to check and complete in every state, STOREH
only where its HL bytes fit (R190, R191 to R209). -/

namespace Sys2Proof.Machine

open Sys2Proof.Statement

variable {i : Instr} {s t : State}

/-- A command that names no region of memory has no check of R213 to fail. -/
theorem exec_of_registerCommand (h : i.op = .init ∨ i.op = .compress ∨ i.op = .final ∨ i.op = .zeroize) : exec i s = .next (effectDone i s) :=
  exec_eq_effectDone (by obtain hop | hop | hop | hop := h <;> rw [hop] <;> rfl)

theorem exec_of_init (hop : i.op = .init) : exec i s = .next (finished (encode i) { s with h := initialBank i.alg }) := by
  rw [exec_of_registerCommand (.inl hop), effectDone, hop]
  rfl

theorem exec_of_compress (hop : i.op = .compress) : exec i s = .next (finished (encode i) { s with
    h := engine i.alg s.h (s.blk.toList.take i.alg.blockBytes), w := .replicate 80 0 }) := by
  rw [exec_of_registerCommand (.inr (.inl hop)), effectDone, hop]
  rfl

theorem h_of_exec_compress (hop : i.op = .compress) (he : exec i s = .next t) :
    t.h = engine i.alg s.h (s.blk.toList.take i.alg.blockBytes) := by
  rw [exec_of_compress hop] at he
  rw [← Host.Outcome.next.inj he, finished]

theorem exec_of_final (hop : i.op = .final) : exec i s = .next (finished (encode i) { s with
    h := finalize i.alg s.h (s.blk.toList.take (s.len.toNat % i.alg.blockBytes)) s.len.toNat, blk := .replicate 128 0, w := .replicate 80 0 }) := by
  rw [exec_of_registerCommand (.inr (.inr (.inl hop))), effectDone, hop]
  rfl

theorem exec_of_zeroize (hop : i.op = .zeroize) : exec i s = .next (finished (encode i) (cleared s)) := by
  rw [exec_of_registerCommand (.inr (.inr (.inr hop))), effectDone, hop]
  rfl

theorem exec_of_storeh (hop : i.op = .storeh) (hdst : s.dst.toNat + i.alg.digestBytes ≤ 2 ^ 32) : exec i s =
    .next (finished (encode i) { s with mem := writeBytes s.mem s.dst.toNat (stateBytes i.alg s.h) }) := by
  have hcheck : issueCheck i.op i.alg s = none := issueCheck_of_fits (by simp [hop]) (by
    simpa [hop, inputRegions, outputRegion] using hdst)
  rw [exec_eq_effectDone hcheck, effectDone, hop]
  rfl

theorem exec_of_storeh_of_wraps (hop : i.op = .storeh) (hdst : 2 ^ 32 < s.dst.toNat + i.alg.digestBytes) : exec i s = .next (rejectedWith 3 s) :=
  exec_eq_rejectedWith (c := .addr) (issueCheck_of_wraps (by simp [hop]) (by simpa [hop, inputRegions, outputRegion] using hdst))

/-- A rejected command shows ERR, so one that does not was accepted and has completed (R212, R215). -/
theorem eq_effectDone_of_not_err (he : exec i s = .next t) (herr : t.status.err = false) : t = effectDone i s := by
  obtain ⟨c, -, hr⟩ | ⟨hc, -⟩ := exec_cases i s
  · obtain rfl : reject c s = t := by simpa [hr] using he
    simp at herr
  · exact Host.Outcome.next.inj (he.symm.trans (exec_eq_effectDone hc))

end Sys2Proof.Machine
end

section
/-! The engine on the bank H: what it reads and what it keeps (R26, R28, R204). -/

namespace Sys2Proof.Machine

variable {alg : Alg}

/-- The words an algorithm does not have (only a five-word algorithm lacks any) keep their value (R26). -/
theorem engine_getElem_of_le (h : Vector Word64 8) (b : List Byte) {j : Fin 8} (hj : alg.stateWords ≤ j.val) : (engine alg h b)[j] = h[j] := by
  cases alg with
  | sha256 | sha512 => exact absurd hj (Nat.not_le.2 j.isLt)
  | sha1 | rmd160 =>
    match j, hj with
    | 5, _ | 6, _ | 7, _ => rfl

theorem foldl_engine_getElem_of_le (bs : List (List Byte)) (h : Vector Word64 8) {j : Fin 8} (hj : alg.stateWords ≤ j.val) :
    (bs.foldl (engine alg) h)[j] = h[j] := by
  induction bs generalizing h with
  | nil => rfl
  | cons b bs ih => rw [List.foldl_cons, ih, engine_getElem_of_le h b hj]

theorem initialBank_getElem_of_le {j : Fin 8} (hj : alg.stateWords ≤ j.val) : (initialBank alg)[j] = 0 := by
  revert hj
  cases alg <;> revert j <;> decide

/-- What a five-word engine writes depends on the low halves of `H[0..4]` only (R26). -/
theorem engine_getElem_congr (h5 : alg.stateWords = 5) {h h' : Vector Word64 8} (hlow : ∀ j : Fin 8, j.val < 5 → trunc32 h[j] = trunc32 h'[j])
    (b : List Byte) {j : Fin 8} (hj : j.val < 5) : (engine alg h b)[j] = (engine alg h' b)[j] := by
  have hread : readWords5 h = readWords5 h' := by
    simpa [readWords5] using ⟨hlow 0 (by decide), hlow 1 (by decide), hlow 2 (by decide), hlow 3 (by decide), hlow 4 (by decide)⟩
  cases alg with
  | sha256 | sha512 => exact absurd h5 (by decide)
  | sha1 | rmd160 =>
    simp only [engine, hread]
    match j, hj with
    | 0, _ | 1, _ | 2, _ | 3, _ | 4, _ => rfl

/-- What SHA256's engine writes depends on the low halves of all eight words only (R26). -/
theorem engine_sha256_congr {h h' : Vector Word64 8} (hlow : ∀ j : Fin 8, trunc32 h[j] = trunc32 h'[j]) (b : List Byte) :
    engine .sha256 h b = engine .sha256 h' b := by
  have hread : readWords8 h = readWords8 h' := by
    simpa [readWords8] using ⟨hlow 0, hlow 1, hlow 2, hlow 3, hlow 4, hlow 5, hlow 6, hlow 7⟩
  rw [engine, engine, hread]

/-- The first `n` bytes of the block buffer are `BLK[0..n-1]` and no other (R28). -/
theorem take_toList_congr {b b' : Vector Byte 128} {n : Nat} (h : ∀ k : Fin 128, k.val < n → b[k] = b'[k]) : b.toList.take n = b'.toList.take n := by
  apply List.ext_getElem (by simp)
  intro k hk _
  simp only [List.length_take, Vector.length_toList, Nat.lt_min] at hk
  simpa using h ⟨k, hk.2⟩ hk.1

end Sys2Proof.Machine
end

section
/-! R190 (d): loading the whole blocks one by one and running COMPRESS after each is the loop of R158. -/

namespace Sys2Proof.Machine

open Sys2Proof.Statement

theorem blockBytes_le (alg : Alg) : alg.blockBytes ≤ 128 := by cases alg <;> decide

@[simp] theorem loadBlock_x (b : List Byte) (s : State) : (loadBlock b s).x = s.x := by rw [loadBlock]

@[simp] theorem loadBlock_h (b : List Byte) (s : State) : (loadBlock b s).h = s.h := by rw [loadBlock]

@[simp] theorem loadBlock_mem (b : List Byte) (s : State) : (loadBlock b s).mem = s.mem := by rw [loadBlock]

/-- The bytes loaded are the first bytes of the block buffer (R28). -/
theorem take_loadBlock {b : List Byte} (hb : b.length ≤ 128) (s : State) : (loadBlock b s).blk.toList.take b.length = b := by
  apply List.ext_getElem (by simpa using hb)
  intro k _ hk
  simp [loadBlock, hk]

/-- One block loaded and compressed. -/
theorem exec_compress_loadBlock {i : Instr} (hop : i.op = .compress) {b : List Byte} (hb : b.length = i.alg.blockBytes) (s : State) :
    ∃ t : State, exec i (loadBlock b s) = .next t ∧ t.h = engine i.alg s.h b ∧ t.x = s.x ∧ t.mem = s.mem := by
  refine ⟨_, exec_of_compress hop, ?_, ?_, ?_⟩
  · rw [finished, loadBlock_h, ← hb, take_loadBlock (hb.trans_le (blockBytes_le i.alg))]
  · rw [finished, loadBlock_x]
  · rw [finished, loadBlock_mem]

/-- The tail of a message loaded, with the whole length in LEN, and finalised. -/
theorem exec_final_loadBlock {i : Instr} (hop : i.op = .final) {n : Nat} (hn : n < 2 ^ 32) {b : List Byte} (hb : b.length = n % i.alg.blockBytes)
    (s : State) : ∃ t : State, exec i { loadBlock b s with x := s.x.set 1 (BitVec.ofNat 32 n) } = .next t ∧ t.h = finalize i.alg s.h b n ∧
      t.x = s.x.set 1 (BitVec.ofNat 32 n) ∧ t.mem = s.mem := by
  have hfits : b.length ≤ 128 := (hb.trans_le (Nat.mod_lt _ (blockBytes_pos i.alg)).le).trans (blockBytes_le i.alg)
  have hlen : (BitVec.ofNat 32 n).toNat = n := by rw [BitVec.toNat_ofNat, Nat.mod_eq_of_lt hn]
  refine ⟨_, exec_of_final hop, ?_, ?_, ?_⟩
  · simp only [finished, State.len, Vector.getElem_set_self, hlen, ← hb, take_loadBlock hfits, loadBlock_h]
  · rw [finished]
  · rw [finished, loadBlock_mem]

theorem feedBlocks_eq_compressBlocks {i : Instr} (hop : i.op = .compress) {q : Nat} {m : List Byte} (hq : q * i.alg.blockBytes ≤ m.length) (s : State) :
    ∃ t : State, feedBlocks i i.alg.blockBytes q m s = some t ∧ t.h = compressBlocks i.alg q m s.h ∧ t.x = s.x ∧ t.mem = s.mem := by
  induction q generalizing m s with
  | zero => exact ⟨s, rfl, rfl, rfl, rfl⟩
  | succ q ih =>
    rw [Nat.succ_mul] at hq
    obtain ⟨u, hu, huh, hux, humem⟩ := exec_compress_loadBlock hop (b := m.take i.alg.blockBytes) (List.length_take_of_le (by omega)) s
    obtain ⟨t, ht, hth, htx, htmem⟩ := ih (m := m.drop i.alg.blockBytes) (by rw [List.length_drop]; omega) u
    refine ⟨t, ?_, ?_, htx.trans hux, htmem.trans humem⟩
    · rw [feedBlocks, hu]
      exact ht
    · rw [hth, huh, compressBlocks]

end Sys2Proof.Machine
end

section
/-! What each operation keeps and what it zeroes (R204). -/

namespace Sys2Proof.Machine

variable {op : Op} (alg : Alg) (s : State)

theorem commandEffect_blk_of_kept (h : op = .init ∨ op = .compress ∨ op = .storeh) : (commandEffect op alg s).blk = s.blk := by
  obtain rfl | rfl | rfl := h <;> rfl

/-- A unit-level command leaves the scratch of HMAC and PBKDF alone. -/
theorem commandEffect_macScratch_of_kept (h : op = .init ∨ op = .compress ∨ op = .storeh ∨ op = .final) :
    (commandEffect op alg s).k0 = s.k0 ∧ (commandEffect op alg s).ih = s.ih ∧ (commandEffect op alg s).u = s.u ∧ (commandEffect op alg s).t = s.t := by
  obtain rfl | rfl | rfl | rfl := h <;> exact ⟨rfl, rfl, rfl, rfl⟩

theorem commandEffect_w_of_kept (h : op = .init ∨ op = .storeh) : (commandEffect op alg s).w = s.w := by
  obtain rfl | rfl := h <;> rfl

/-- The schedule scratch is zero after the engine has run (R105). -/
theorem commandEffect_w_of_engine (h : op = .compress ∨ op = .final) : (commandEffect op alg s).w = .replicate 80 0 := by
  obtain rfl | rfl := h <;> rfl

/-- The words of H the algorithm does not have are kept by the engine, run once or over the final blocks. -/
theorem commandEffect_h_getElem_of_engine (h : op = .compress ∨ op = .final) {j : Fin 8} (hj : alg.stateWords ≤ j.val) :
    (commandEffect op alg s).h[j] = s.h[j] := by
  obtain rfl | rfl := h
  · exact engine_getElem_of_le _ _ hj
  · exact foldl_engine_getElem_of_le _ _ hj

/-- The complete commands and ZEROIZE end with `zeroize()` (R30). -/
theorem commandEffect_eq_zeroizeState (h : op = .digest ∨ op = .hmac ∨ op = .pbkdf ∨ op = .zeroize) :
    ∃ m : Memory, commandEffect op alg s = zeroizeState { s with mem := m } := by
  obtain rfl | rfl | rfl | rfl := h <;> exact ⟨_, rfl⟩

end Sys2Proof.Machine
end

section
namespace Sys2Proof.Proofs

open Sys2Proof.Machine Sys2Proof.Statement

/-- Settles O14: the engine is given the same block and the same words, and overwrites all the words compared. -/
theorem compressIgnoresUnreadState : Obligations.CompressIgnoresUnreadState := by
  intro s s' t t' hblk
  have hblock : s.blk.toList.take 64 = s'.blk.toList.take 64 := take_toList_congr hblk
  refine ⟨fun hlow => ⟨fun he he' j hj => ?sha1, fun he he' j hj => ?rmd160⟩, fun hlow he he' => ?sha256⟩
  all_goals
    rw [h_of_exec_compress rfl he, h_of_exec_compress rfl he', Instr.alg, Alg.blockBytes, hblock]
  case sha1 => exact engine_getElem_congr rfl hlow _ hj
  case rmd160 => exact engine_getElem_congr rfl hlow _ hj
  case sha256 => exact engine_sha256_congr hlow _

/-- Settles O21: after the blocks H is as the loop of R158 leaves it, FINAL pads the tail with the whole length, and STOREH writes the serialised state. -/
theorem unitSequenceComputesDigest : Obligations.UnitSequenceComputesDigest := by
  rintro alg init compress final storeh m s hinit hcompress hfinal hstoreh hialg rfl hfalg hsalg hlen hdst hmem
  obtain ⟨t1, hexec1, hh1, hx1, hmem1⟩ : ∃ t : State, exec init s = .next t ∧ t.h = initialBank compress.alg ∧ t.x = s.x ∧ t.mem = s.mem :=
    ⟨_, exec_of_init hinit, by rw [finished, hialg], rfl, rfl⟩
  obtain ⟨t2, hfeed, hh2, hx2, hmem2⟩ := feedBlocks_eq_compressBlocks hcompress (Nat.div_mul_le_self m.length compress.alg.blockBytes) t1
  obtain ⟨t3, hexec3, hh3, hx3, hmem3⟩ := exec_final_loadBlock hfinal hlen (length_drop_wholeBlocks final.alg m) t2
  rw [hfalg, hh2, hh1] at hh3
  have hdst3 : t3.dst = s.dst := by simp [State.dst, hx3, hx2, hx1]
  refine ⟨t1, t2, t3, _, hexec1, hfeed, hfalg ▸ hexec3, exec_of_storeh hstoreh (by rwa [hdst3, hsalg]), ?_⟩
  have hbytes : stateBytes compress.alg t3.h = digest compress.alg m := congrArg (stateBytes compress.alg) hh3
  rw [finished, hsalg, hbytes, hdst3, ← digest_length compress.alg m]
  exact readBytes_writeBytes (by rw [hmem3, hmem2, hmem1]; exact hmem.1) _ _

/-- Settles O24: FINAL is `finalize` on the tail; every engine call keeps the words the algorithm does not have. -/
theorem finalPadsAndCompresses : Obligations.FinalPadsAndCompresses := fun _ =>
  ⟨exec_of_final rfl, exec_of_final rfl, exec_of_final rfl, exec_of_final rfl, fun alg tail => finalBlocks_length alg tail _,
    fun _ _ hj => ⟨foldl_engine_getElem_of_le _ _ hj, foldl_engine_getElem_of_le _ _ hj⟩⟩

/-- Settles O25: the one region checked is the HL bytes at DST; the worked values are evaluated. -/
theorem storehWritesTheState : Obligations.StorehWritesTheState :=
  ⟨fun _ _ => exec_of_storeh, fun _ _ => exec_of_storeh_of_wraps, by decide, by decide, by decide, by decide, by decide, by decide⟩

/-- Settles O35: what each operation's effect keeps and zeroes; acceptance and completion touch neither H nor BLK nor the scratch. -/
theorem whichCommandZeroesWhat : Obligations.WhichCommandZeroesWhat := by
  intro i s t he herr
  obtain rfl := eq_effectDone_of_not_err he herr
  refine ⟨commandEffect_blk_of_kept _ _, commandEffect_macScratch_of_kept _ _, commandEffect_w_of_kept _ _, commandEffect_w_of_engine _ _,
    fun hop => ?final, fun hop => ?storeh, fun hop j => commandEffect_h_getElem_of_engine _ _ hop, fun hop j hj => ?init, fun hop => ?zeroed⟩
  case final => rw [effectDone, hop]; rfl
  case storeh => rw [effectDone, hop]; rfl
  case init =>
    have hh : (effectDone i s).h = initialBank i.alg := by rw [effectDone, hop]; rfl
    rw [hh, initialBank_getElem_of_le hj]
  case zeroed =>
    obtain ⟨m, hm⟩ := commandEffect_eq_zeroizeState i.alg (accept (encode i) s) hop
    rw [effectDone, hm]
    exact ⟨rfl, rfl, rfl, rfl, rfl, rfl, rfl⟩

/-- Settles O22: INIT loads the bank of the algorithm, whose words are the rules' values. -/
theorem initLoadsInitialValues : Obligations.InitLoadsInitialValues := fun _ =>
  ⟨exec_of_init rfl, exec_of_init rfl, exec_of_init rfl, exec_of_init rfl⟩

/-- Settles O23: COMPRESS is one engine call; the kernel evaluates the rules' values. -/
theorem compressRunsTheEngine : Obligations.CompressRunsTheEngine :=
  ⟨fun _ => ⟨exec_of_compress rfl, exec_of_compress rfl, exec_of_compress rfl, exec_of_compress rfl⟩,
    by decide +kernel, by decide +kernel, by decide +kernel, by decide +kernel, by decide +kernel, by decide +kernel,
    by decide +kernel, by decide +kernel, by decide +kernel, by decide +kernel, by decide +kernel, by decide +kernel⟩

/-- Settles O30: the effect is `zeroize()` itself; the three words are R76 (d). -/
theorem zeroizeClearsTheBlock : Obligations.ZeroizeClearsTheBlock := fun s =>
  have hillegal (w : Word32) (hop : w.extractLsb' 0 4 = 8 ∧ w.extractLsb' 4 2 ≠ 0) : issue w s = .next (rejectedWith 1 s) :=
    issue_of_illegalWord (.inr (.inr (.inr hop))) s
  ⟨exec_of_zeroize rfl, by decide, hillegal _ (by decide), hillegal _ (by decide), hillegal _ (by decide)⟩

/-- Settles O40: such a command completes and has no output. -/
theorem registerCommandsLeaveMemory : Obligations.RegisterCommandsLeaveMemory := by
  intro i s t hop he a
  obtain rfl : effectDone i s = t := by simpa [exec_of_registerCommand hop] using he
  have hout : commandOutput i.op i.alg s = [] := by obtain h | h | h | h := hop <;> rw [h] <;> rfl
  rw [effectDone_mem, hout]
  rfl

end Sys2Proof.Proofs
end


section
/-! What a register of the window holds after a write to it: the halves of H and the words of BLK are put together and cut apart the same way (R27, R28). -/

namespace Sys2Proof.Machine

variable {off : Nat} {v : Word32} {s t : State} {r : WindowReg}

@[simp] theorem lowHalf_append (hi lo : Word32) : lowHalf (hi ++ lo) = lo := BitVec.extractLsb'_append_eq_right

@[simp] theorem highHalf_append (hi lo : Word32) : highHalf (hi ++ lo) = hi := BitVec.extractLsb'_append_eq_left

@[simp] theorem blkWord_setBlkWord (blk : Vector Byte 128) (j : Fin 32) (v : Word32) : blkWord (setBlkWord blk j v) j = v := by
  have hbyte : ∀ n (hn : n < 4), (setBlkWord blk j v)[4 * j.val + n] = lane v n := fun n hn => by
    have hset := getElem_setBlkWord blk j v ⟨4 * j.val + n, by omega⟩
    rwa [if_pos (show (4 * j.val + n) / 4 = j.val by omega), show (4 * j.val + n) % 4 = n by omega] at hset
  calc blkWord (setBlkWord blk j v) j = lane v 3 ++ lane v 2 ++ lane v 1 ++ lane v 0 := by
        rw [blkWord, hbyte 3 (by decide), hbyte 2 (by decide), hbyte 1 (by decide), ← hbyte 0 (by decide)]; rfl
    _ = v := ldBe32_stBe32 v

/-- The registers at the offsets of R241: operands, halves of H and words of BLK. -/
theorem exists_windowReg_writable (ha : off % 4 = 0) (hu : off < 0x100) (hw : (0x08 ≤ off ∧ off ≤ 0x20) ∨ 0x40 ≤ off) :
    ∃ r, windowReg off = some r ∧ r ≠ .cmd ∧ r ≠ .status ∧ r ≠ .reserved := by
  rcases (by omega : (0x08 ≤ off ∧ off ≤ 0x20) ∨ (0x40 ≤ off ∧ off ≤ 0x7C) ∨ 0x80 ≤ off) with ⟨hl, hop⟩ | ⟨hl, hh⟩ | hl
  · exact ⟨_, windowReg_operand ha hl hop, by simp⟩
  · have hr := windowReg_h ha hl hh
    split_ifs at hr <;> exact ⟨_, hr, by simp⟩
  · exact ⟨_, windowReg_blkw ha hl hu, by simp⟩

@[simp] theorem windowWrite_busy (r : WindowReg) (v : Word32) (s : State) : (windowWrite r v s).status.busy = s.status.busy := by
  cases r <;> simp [windowWrite]

/-- A register that stores a value gives back what was written to it (R241). -/
theorem windowRead_windowWrite (hb : s.status.busy = false) (hcmd : r ≠ .cmd) (hstatus : r ≠ .status) (hreserved : r ≠ .reserved) :
    windowRead r (windowWrite r v s) = v := by
  rw [← windowWrite_busy r v s] at hb
  cases r with
  | cmd | status | reserved => contradiction
  | operand i => rw [windowRead_operand hb]; simp [windowWrite]
  | hLo i => rw [windowRead_hLo hb]; simp [windowWrite]
  | hHi i => rw [windowRead_hHi hb]; simp [windowWrite]
  | blkw j => rw [windowRead_blkw hb]; simp [windowWrite]

end Sys2Proof.Machine
end

section
/-! The bytes of a command that is running: what its meaning writes, what its completion leaves after the races, and what a load or a reset in mid-command
shows of it (R215, R232, R238). -/

namespace Sys2Proof.Machine

variable {s u : State} {i : Instr} {a : Nat}

/-- Everything the meaning of a command does to memory: nothing (a rejection), or one write of its output region. -/
theorem exec_mem_cases (he : exec i s = .next u) :
    u.mem = s.mem ∨ u.mem = writeBytes s.mem (outputRegion i.op i.alg s).1 (commandOutput i.op i.alg s) := by
  obtain ⟨c, -, hr⟩ | ⟨hc, -⟩ := exec_cases i s
  · obtain rfl : reject c s = u := by simpa [hr] using he
    exact .inl rfl
  · obtain rfl : effectDone i s = u := by simpa [exec_eq_effectDone hc] using he
    exact .inr (effectDone_mem i s)

theorem pairwise_of_exec (hs : s.mem.Pairwise fun c d => c.1 < d.1) (he : exec i s = .next u) : u.mem.Pairwise fun c d => c.1 < d.1 := by
  obtain hmem | hmem := exec_mem_cases he
  · rwa [hmem]
  · rw [hmem]
    exact pairwise_writeBytes hs _ _

/-- The meaning of a command leaves every byte outside its output region (R54). -/
theorem readByte_of_exec_of_outside (hs : s.mem.Pairwise fun c d => c.1 < d.1) (he : exec i s = .next u)
    (ha : inRegion (outputRegion i.op i.alg s) a = false) : readByte u.mem a = readByte s.mem a := by
  obtain hmem | hmem := exec_mem_cases he
  · rw [hmem]
  · rw [inRegion_eq_false_iff, ← commandOutput_length] at ha
    rw [hmem, readByte_writeBytes_of_outside hs _ _ ha]

theorem settledByte_of_unraced (hin : inputRaced i s = false) (ha : storedMeanwhile s a = false) : settledByte i s u a = readByte u.mem a := by
  simp [settledByte, hin, ha]

theorem settledByte_of_stores_nil (hst : s.stores = []) : settledByte i s u a = readByte u.mem a :=
  settledByte_of_unraced (by simp [inputRaced, hst]) (by simp [storedMeanwhile, hst])

/-- With its input as it was, a raced byte is the command's or the one memory held (R238 (b)). -/
theorem settledByte_cases (hin : inputRaced i s = false) : settledByte i s u a = readByte u.mem a ∨ settledByte i s u a = readByte s.mem a := by
  unfold settledByte
  rw [if_neg (by simp [hin])]
  split
  · exact .inr rfl
  · exact .inl rfl

/-- Completion settles the bytes of the output region and leaves the others as the command's meaning left them (R238). -/
theorem readByte_settle (hu : u.mem.Pairwise fun c d => c.1 < d.1) :
    readByte (settle i s u).mem a = if inRegion (outputRegion i.op i.alg s) a = true then settledByte i s u a else readByte u.mem a := by
  unfold settle
  split
  case isTrue hst => simp [settledByte_of_stores_nil hst]
  case isFalse => exact readByte_overlay hu _ _ _

/-- With its input as it was, a command's completion leaves each byte as its meaning did, or a raced one as memory held it (R238). -/
theorem readByte_settle_cases (hu : u.mem.Pairwise fun c d => c.1 < d.1) (hin : inputRaced i s = false) :
    readByte (settle i s u).mem a = readByte u.mem a ∨ readByte (settle i s u).mem a = readByte s.mem a := by
  rw [readByte_settle hu]
  split
  · exact settledByte_cases hin
  · exact .inl rfl

theorem completeRunning_of_exec (hd : decode s.cmd = some i) (he : exec i s = .next u) :
    completeRunning s = .next (noteUnread i s (settle i s u)) := by
  simp only [completeRunning, hd, he]

theorem busyByte_of_exec (hd : decode s.cmd = some i) (he : exec i s = .next u) (old : Byte) : busyByte s old a =
    if inRegion (outputRegion i.op i.alg s) a && Config.takesNew s.freeCount a then settledByte i s u a else old := by
  simp only [busyByte, hd, he]

/-- Outside its output region nothing shows of a running command (R238 (b)). -/
theorem busyByte_of_outside (hd : decode s.cmd = some i) (ha : inRegion (outputRegion i.op i.alg s) a = false) (old : Byte) :
    busyByte s old a = old := by
  obtain ⟨u, he⟩ := exists_exec_eq_next i s
  simp [busyByte_of_exec hd he, ha]

/-- Where no other agent stored, a byte shown of a running command is the old one, or in the output region the one the command writes (R232, R238 (b)). -/
theorem busyByte_cases (hd : decode s.cmd = some i) (he : exec i s = .next u) (hst : s.stores = []) (old : Byte) :
    busyByte s old a = old ∨ (inRegion (outputRegion i.op i.alg s) a = true ∧ busyByte s old a = readByte u.mem a) := by
  rw [busyByte_of_exec hd he, settledByte_of_stores_nil hst]
  split
  case isTrue h => exact .inr ⟨(Bool.and_eq_true_iff.1 h).1, rfl⟩
  case isFalse => exact .inl rfl

/-- Reset in mid-command leaves each byte as a load could have shown it (R232). -/
theorem readByte_resetBlock_of_busy (hs : s.mem.Pairwise fun c d => c.1 < d.1) (hb : s.status.busy = true) (hd : decode s.cmd = some i) :
    readByte (resetBlock s).mem a = busyByte s (readByte s.mem a) a := by
  have hr : runningOutput s = outputRegion i.op i.alg s := by simp only [runningOutput, hd]
  rw [resetBlock_mem, if_pos hb, hr, readByte_overlay hs]
  split
  case isTrue => rfl
  case isFalse ha => exact (busyByte_of_outside hd (Bool.eq_false_iff.2 ha) _).symm

theorem unreadAfterReset_of_decode_none (hd : decode s.cmd = none) : unreadAfterReset s = s.unread := by
  unfold unreadAfterReset
  rw [hd]
  exact ite_self _

end Sys2Proof.Machine
end

section
/-! The accesses of an agent outside the block to memory, byte by byte: what a load shows, and what a store leaves (R20, R238). -/

namespace Sys2Proof.Machine

variable {s t : State} {e : Unread} {addr a n k : Nat} {v : List Byte}

theorem nextAccess_of_inbox_nil (h : s.inbox = []) : nextAccess s = .next s := by simp only [nextAccess, h]

theorem regionWraps_eq_false (h : addr + n ≤ 2 ^ 32) : regionWraps (addr, n) = false := by
  rw [Bool.eq_false_iff, Ne, regionWraps_iff]
  exact Nat.not_lt.2 h

/-- What a load shows: the bytes one by one. -/
def shownBytes (s : State) (addr n : Nat) : List Byte := (List.range n).map fun k => shownByte s (addr + k)

@[simp] theorem shownBytes_length (s : State) (addr n : Nat) : (shownBytes s addr n).length = n := by simp [shownBytes]

theorem shownBytes_getD (h : k < n) : (shownBytes s addr n).getD k 0 = shownByte s (addr + k) := by simp [shownBytes, h]

theorem shownByte_of_idle (hb : s.status.busy = false) : shownByte s a = seenByte (s.freeCount + 1) s.mem s.unread a := by simp [shownByte, hb]

theorem shownByte_of_busy (hb : s.status.busy = true) : shownByte s a = busyByte s (seenByte (s.freeCount + 1) s.mem s.unread a) a := by
  simp [shownByte, hb]

/-- With nothing running and nothing unread a load shows memory. -/
theorem shownBytes_of_quiet (hb : s.status.busy = false) (hu : s.unread = []) : shownBytes s addr n = readBytes s.mem addr n := by
  apply List.ext_getElem (by simp)
  intro k hk _
  rw [getElem_readBytes]
  simp [shownBytes, shownByte_of_idle hb, hu]

/-- A load of addresses that exist gives the bytes shown; where a race may decide one of them the free-value counter advances. -/
theorem memLoad_of_fits (h : addr + n ≤ 2 ^ 32) : memLoad addr n s = .next { s with
    outbox := .bytes (shownBytes s addr n) :: s.outbox
    freeCount := if s.status.busy = false ∧ s.unread = [] then s.freeCount else s.freeCount + 1 + s.unread.length } := by
  unfold memLoad
  rw [if_neg (by simp [regionWraps_eq_false h])]
  split
  case isTrue hq => rw [shownBytes_of_quiet hq.1 hq.2]
  case isFalse => rfl

theorem seenByte_of_outside {m : Memory} {us : List Unread} (h : ∀ e ∈ us, inRegion e.output a = false) : seenByte n m us a = readByte m a := by
  obtain hseen | ⟨e, he, hin, -⟩ := seenByte_cases n m us a
  · exact hseen
  · simp [h e he] at hin

theorem seenByte_singleton {m : Memory} (h : inRegion e.output a = true) :
    seenByte n m [e] a = if Config.takesNew n a = true then readByte m a else readByte e.before a := by
  cases hnew : Config.takesNew n a <;> simp [seenByte, h, hnew]

theorem storeOutside_mem (addr : Nat) (v : List Byte) (s : State) : (storeOutside addr v s).mem =
    (racedOutputs s.unread (addr, v.length)).foldr (fun q m => overlay m q (Config.racedByte s.freeCount))
      (writeBytes s.mem addr (storedBytes s addr v)) := rfl

theorem memStore_of_fits (h : addr + v.length ≤ 2 ^ 32) : memStore addr v s = .next (storeOutside addr v s) := by
  simp [memStore, regionWraps_eq_false h]

theorem eq_storeOutside_of_memStore (h : memStore addr v s = .next t) : t = storeOutside addr v s := by
  unfold memStore at h
  split at h
  case isTrue => cases h
  case isFalse => exact (Host.Outcome.next.inj h).symm

theorem storedByte_of_outside (h : ∀ e ∈ s.unread, inRegion e.output a = false) (b : Byte) : storedByte s a b = b := by
  obtain hb | ⟨⟨e, he, hin⟩, -⟩ := storedByte_cases s a b
  · exact hb
  · simp [h e he] at hin

theorem storedByte_singleton (hu : s.unread = [e]) (h : inRegion e.output a = true) (b : Byte) :
    storedByte s a b = if Config.takesNew s.freeCount a = true then readByte s.mem a else b := by
  simp [storedByte, hu, h]

/-- No output region of a command whose input the store of `v` from `addr` on may have changed holds the address `a`. -/
def Unraced (s : State) (addr : Nat) (v : List Byte) (a : Nat) : Prop := ∀ q ∈ racedOutputs s.unread (addr, v.length), inRegion q a = false

theorem unraced_of_outside (h : ∀ e ∈ s.unread, inRegion e.output a = false) : Unraced s addr v a := fun q hq => by
  obtain ⟨e, he, rfl⟩ := mem_racedOutputs hq
  exact h e he

theorem unraced_of_inputs_unmet (h : ∀ e ∈ s.unread, ∀ q ∈ e.inputs, regionsOverlap (addr, v.length) q = false) : Unraced s addr v a := by
  have hnil : racedOutputs s.unread (addr, v.length) = [] :=
    racedOutputs_eq_nil fun e he => List.any_eq_false.2 fun q hq => by simp [h e he q hq]
  simp [Unraced, hnil]

variable (hs : s.mem.Pairwise fun c d => c.1 < d.1)
include hs

theorem readByte_storeOutside_of_outside (hr : Unraced s addr v a) (ha : a < addr ∨ addr + v.length ≤ a) :
    readByte (storeOutside addr v s).mem a = readByte s.mem a := by
  rw [storeOutside_mem, readByte_foldr_overlay_of_outside (pairwise_writeBytes hs _ _) _ _ hr]
  exact readByte_writeBytes_of_outside hs _ _ (by rwa [storedBytes_length])

theorem readByte_storeOutside_of_inside (hk : k < v.length) (hr : Unraced s addr v (addr + k)) :
    readByte (storeOutside addr v s).mem (addr + k) = storedByte s (addr + k) (v.getD k 0) := by
  have hk' : k < (storedBytes s addr v).length := by rwa [storedBytes_length]
  rw [storeOutside_mem, readByte_foldr_overlay_of_outside (pairwise_writeBytes hs _ _) _ _ hr, readByte_writeBytes_of_inside hs _ _ hk',
    getElem_storedBytes, List.getD_eq_getElem _ _ hk]

/-- A store to an input byte of the one unread command leaves nothing known of its output (R238 (a)). -/
theorem readByte_storeOutside_of_input_met (hu : s.unread = [e]) (hmet : ∃ q ∈ e.inputs, regionsOverlap (addr, v.length) q = true)
    (ha : inRegion e.output a = true) : readByte (storeOutside addr v s).mem a = Config.racedByte s.freeCount a := by
  have hraced : racedOutputs s.unread (addr, v.length) = [e.output] := by
    have hany : e.inputs.any (regionsOverlap (addr, v.length)) = true := List.any_eq_true.2 hmet
    simp [hu, racedOutputs, hany]
  rw [storeOutside_mem, hraced, List.foldr_cons, List.foldr_nil, readByte_overlay (pairwise_writeBytes hs _ _), if_pos ha]

end Sys2Proof.Machine
end

section
namespace Sys2Proof.Proofs

open Sys2Proof.Machine Sys2Proof.Statement

/-- Settles O43: a register at these offsets keeps what is written to it, and none of them is STATUS. -/
theorem writeThenReadBack : Obligations.WriteThenReadBack := by
  intro off v s t hb hu ha hoff hwrite
  obtain ⟨r, hr, hcmd, hstatus, hreserved⟩ := exists_windowReg_writable ha hu hoff
  obtain rfl : windowWrite r v s = t := by simpa [regWrite_of_idle hr hcmd hb] using hwrite
  rw [regRead_of_some hr (windowRead_windowWrite hb hcmd hstatus hreserved), if_neg fun h => hstatus ((eq_status_iff hr).2 h.1)]

/-- Settles O52: completion is the command's meaning with the bytes of the output region settled. -/
theorem racesStayInTheOutputRegion : Obligations.RacesStayInTheOutputRegion := by
  intro s t u i hm hd he hcomplete
  have hu := pairwise_of_exec hm.1 he
  obtain rfl : noteUnread i s (settle i s u) = t := by simpa [completeRunning_of_exec hd he] using hcomplete
  rw [noteUnread_mem]
  refine ⟨fun a ha => ?_, fun a hin hst => ?_, fun a hin => readByte_settle_cases hu hin⟩
  · rw [readByte_settle hu, if_neg (by simp [ha]), readByte_of_exec_of_outside hm.1 he ha]
  · rw [readByte_settle hu, settledByte_of_unraced hin hst, ite_self]

/-- Settles O53: the running command shows in its output region only, over what the unread ones leave to see. -/
theorem earlyReadShowsOldOrNew : Obligations.EarlyReadShowsOldOrNew := by
  intro s u i addr n hb hd he hfit
  refine ⟨shownBytes s addr n, by simp [memLoad_of_fits hfit, hb], shownBytes_length s addr n, fun k hk hrun hunread => ?_, fun hst k hk => ?_⟩
  · rw [shownBytes_getD hk, shownByte_of_busy hb, busyByte_of_outside hd hrun, seenByte_of_outside hunread]
  · rw [shownBytes_getD hk, shownByte_of_busy hb]
    obtain hold | hnew := busyByte_cases hd he hst (a := addr + k) (seenByte (s.freeCount + 1) s.mem s.unread (addr + k))
    · rw [hold]
      exact (seenByte_cases _ _ _ _).imp_right .inl
    · exact .inr (.inr hnew)

/-- Settles O54: of a running command each byte of memory is left as a load could have shown it. -/
theorem resetAtAnyTime : Obligations.ResetAtAnyTime := by
  intro s hm
  refine ⟨resetBlock s, rfl, rfl, fun hb => ⟨by simp [hb], unreadAfterReset_of_idle hb⟩, unreadAfterReset_of_decode_none,
    fun i hb hd => ?_, fun i hb hd a ha => ?_, fun u i hb hst hd he a => ?_⟩
  · rw [resetBlock_unread, unreadAfterReset_of_busy hb hd, noteUnread_eq_noted]
  · rw [readByte_resetBlock_of_busy hm.1 hb hd, busyByte_of_outside hd ha]
  · rw [readByte_resetBlock_of_busy hm.1 hb hd]
    exact busyByte_cases hd he hst _

/-- Settles O60: the bytes that differ from memory's own and the stored ones are `seenByte`, `storedByte` and the raced outputs, each confined to the output
regions of unread commands. -/
theorem regionsStayTheBlocksUntilStatusIsRead : Obligations.RegionsStayTheBlocksUntilStatusIsRead := by
  refine ⟨fun s addr n hb hfit => ?_, fun s addr v hb hm hfit => ?_, fun s e a hb hu ha hin => ?_, fun s t e a b hb hm hu hstore => ?_⟩
  · refine ⟨shownBytes s addr n, _, memLoad_of_fits hfit, shownBytes_length s addr n, fun k hk => ?_⟩
    rw [shownBytes_getD hk, shownByte_of_idle hb]
    exact seenByte_cases _ _ _ _
  · refine ⟨(storeOutside addr v s).mem, (storeOutside addr v s).freeCount, ?_, fun a ha hout => ?_, fun k hk hout => ?_, fun hunmet =>
      ⟨fun a ha => ?_, fun k hk => ?_⟩⟩
    · rw [memStore_of_fits hfit]
      simp [storeOutside, hb]
    · exact readByte_storeOutside_of_outside hm.1 (unraced_of_outside hout) ha
    · rw [readByte_storeOutside_of_inside hm.1 hk (unraced_of_outside hout), storedByte_of_outside hout]
    · exact readByte_storeOutside_of_outside hm.1 (unraced_of_inputs_unmet hunmet) ha
    · rw [readByte_storeOutside_of_inside hm.1 hk (unraced_of_inputs_unmet hunmet)]
      exact (storedByte_cases s _ _).imp_right And.right
  · simp [memLoad_of_fits (show a + 1 ≤ 2 ^ 32 from ha), shownBytes, shownByte_of_idle hb, hu, seenByte_singleton hin]
  · obtain rfl := eq_storeOutside_of_memStore hstore
    refine ⟨fun hunmet hin => ?_, fun hmet x hx => readByte_storeOutside_of_input_met hm.1 hu hmet hx⟩
    have hunraced : Unraced s a [b] (a + 0) := unraced_of_inputs_unmet (by simpa [hu] using hunmet)
    exact (readByte_storeOutside_of_inside hm.1 Nat.one_pos hunraced).trans (storedByte_singleton hu hin b)

/-- Settles O46: a step of an idle block is its next access, and there is none. -/
theorem idleBlockWaits : Obligations.IdleBlockWaits := by
  intro s hb hin
  rw [step_of_idle hb, nextAccess_of_inbox_nil hin]

end Sys2Proof.Proofs
end

section
/-! No access the spec gives a meaning stops the machine: what one answers, what it leaves of the accesses to come, and that a running command runs on under
every one but a reset (R210, R219). -/

namespace Sys2Proof.Machine

variable {s t : State} {i : Instr} {w : Word32} {a : HostAccess}

/-- A legal word that fails its checks is rejected whatever its duration; it takes one duration off all the same (R213; log entry 3). -/
theorem issue_of_rejected {c : ErrCode} (hd : decode w = some i) (hc : issueCheck i.op i.alg s = some c) :
    issue w s = .next (reject c { s with latency := s.latency.tail }) := by
  have hc' : issueCheck i.op i.alg { s with latency := s.latency.tail } = some c := hc
  cases hl : s.latency.headD 0 with
  | zero =>
    rw [issue_of_decode hd hl, performNow_of_exec (exec_of_rejected hc'), noteUnread, if_neg (by simp [hc'])]
  | succ d => simp only [issue, hd, hl, hc', exec_of_rejected hc']

/-- A legal word that passes its checks completes in its step where its duration is 0 (R215). -/
theorem issue_of_accepted_now (hd : decode w = some i) (hc : issueCheck i.op i.alg s = none) (hl : s.latency.headD 0 = 0) :
    issue w s = .next (noteUnread i { s with latency := s.latency.tail } (effectDone i { s with latency := s.latency.tail })) := by
  rw [issue_of_decode hd hl, performNow_of_exec (exec_eq_effectDone (s := { s with latency := s.latency.tail }) hc)]

/-- A legal word that passes its checks starts the busy period where its duration is not 0 (R214). -/
theorem issue_of_accepted_for {d : Nat} (hd : decode w = some i) (hc : issueCheck i.op i.alg s = none) (hl : s.latency.headD 0 = d + 1) :
    issue w s = .next (acceptFor d w { s with latency := s.latency.tail }) := by
  have hc' : issueCheck i.op i.alg { s with latency := s.latency.tail } = none := hc
  simp only [issue, hd, hl, hc']

/-- The issue of any word answers a next state and leaves the accesses to come (R213). -/
theorem exists_issue_eq_next (w : Word32) (s : State) : ∃ t, issue w s = .next t ∧ t.inbox = s.inbox := by
  cases hd : decode w with
  | none => exact ⟨_, issue_of_illegalWord (decode_eq_none_iff.1 hd) s, rfl⟩
  | some i =>
    cases hc : issueCheck i.op i.alg s with
    | some c => exact ⟨_, issue_of_rejected hd hc, rfl⟩
    | none =>
      cases hl : s.latency.headD 0 with
      | zero => exact ⟨_, issue_of_accepted_now hd hc hl, by simp⟩
      | succ d => exact ⟨_, issue_of_accepted_for hd hc hl, rfl⟩

@[simp] theorem windowWrite_inbox (r : WindowReg) (v : Word32) (s : State) : (windowWrite r v s).inbox = s.inbox := by
  cases r <;> rfl

/-- The command running in `s` runs in `t` too, as far from its completion. -/
def RunsOn (s t : State) : Prop := t.status.busy = true ∧ t.cmd = s.cmd ∧ t.remaining = s.remaining

/-- A well-formed access answers a next state; but for a reset it leaves a running command running (R31, R34, R230). -/
theorem exists_access_eq_next (ha : a.wellFormed = true) (s : State) :
    ∃ t, access a s = .next t ∧ t.inbox = s.inbox ∧ (s.status.busy = true → a ≠ .reset → RunsOn s t) := by
  cases a with
  | regOtherWidth off n => simp [HostAccess.wellFormed] at ha
  | reset => exact ⟨resetBlock s, rfl, rfl, fun _ h => absurd rfl h⟩
  | memStore addr bytes =>
    exact ⟨storeOutside addr bytes s, memStore_of_fits (of_decide_eq_true ha), rfl, fun hb _ => ⟨hb, rfl, rfl⟩⟩
  | memLoad addr n => exact ⟨_, memLoad_of_fits (of_decide_eq_true ha), rfl, fun hb _ => ⟨hb, rfl, rfl⟩⟩
  | regRead off =>
    simp only [HostAccess.wellFormed, Bool.and_eq_true, decide_eq_true_eq] at ha
    obtain ⟨r, hr⟩ := exists_windowReg ha.1 ha.2
    exact ⟨_, regRead_of_some hr rfl, rfl, fun hb _ => ⟨hb, rfl, rfl⟩⟩
  | regWrite off v =>
    simp only [HostAccess.wellFormed, Bool.and_eq_true, decide_eq_true_eq] at ha
    obtain ⟨r, hr⟩ := exists_windowReg ha.1 ha.2
    cases hb : s.status.busy with
    | true => exact ⟨_, regWrite_of_busy hr hb, rfl, fun _ _ => ⟨hb, rfl, rfl⟩⟩
    | false =>
      by_cases hcmd : r = .cmd
      · obtain ⟨t, ht, hin⟩ := exists_issue_eq_next v s
        exact ⟨t, by simp [access, regWrite, hr, hb, hcmd, ht], hin, by simp⟩
      · exact ⟨_, regWrite_of_idle hr hcmd hb, windowWrite_inbox r v s, by simp⟩

/-- The next access, if any, answers and is gone. -/
theorem exists_nextAccess_eq_next (h : ∀ a ∈ s.inbox, a.wellFormed = true) :
    ∃ t, nextAccess s = .next t ∧ t.inbox = s.inbox.tail ∧ (s.status.busy = true → HostAccess.reset ∉ s.inbox → RunsOn s t) := by
  cases hin : s.inbox with
  | nil => exact ⟨s, nextAccess_of_inbox_nil hin, hin, fun hb _ => ⟨hb, rfl, rfl⟩⟩
  | cons a rest =>
    obtain ⟨t, ht, hrest, hrun⟩ := exists_access_eq_next (h a (by simp [hin])) { s with inbox := rest }
    refine ⟨t, by rw [nextAccess_cons hin, ht], hrest, fun hb hr => ?_⟩
    obtain ⟨hbusy, hcmd, hrem⟩ := hrun hb fun e => hr (by simp [e])
    exact ⟨hbusy, hcmd, hrem⟩

theorem step_of_completion (hb : s.status.busy = true) (hr : s.remaining = 0) : step s = completeRunning s := by simp [step, hb, hr]

/-- In a good state the running command completes, with its races settled (R215, R238). -/
theorem State.Good.completeRunning_eq (hs : s.Good) (hb : s.status.busy = true) :
    ∃ i, decode s.cmd = some i ∧ completeRunning s = .next (noteUnread i s (settle i s (effectDone i s))) := by
  obtain ⟨i, hd, hc⟩ := hs.running hb
  exact ⟨i, hd, completeRunning_of_exec hd (exec_eq_effectDone hc)⟩

@[simp] theorem settle_inbox (i : Instr) (s t : State) : (settle i s t).inbox = t.inbox := by unfold settle; split <;> rfl

/-- A step from a safe state answers a safe one and takes an access off those to come or none; while a running command has steps left and no reset comes,
it leaves the command running, one step nearer to its completion. -/
theorem State.Safe.exists_step_eq_next (hs : s.Safe) : ∃ t, step s = .next t ∧ t.Safe ∧ t.inbox ⊆ s.inbox ∧
    (s.status.busy = true → HostAccess.reset ∉ s.inbox → ∀ d, s.remaining = d + 1 → RunsOn { s with remaining := d } t) := by
  have hsafe : ∀ t, step s = .next t → t.inbox ⊆ s.inbox → t.Safe := fun t ht hsub => ⟨hs.1.of_step ht, fun a ha => hs.2 a (hsub ha)⟩
  obtain ⟨hgood, hin⟩ := hs
  cases hb : s.status.busy with
  | false =>
    obtain ⟨t, ht, htail, -⟩ := exists_nextAccess_eq_next hin
    have hstep : step s = .next t := (step_of_idle hb).trans ht
    have hsub : t.inbox ⊆ s.inbox := htail ▸ List.tail_subset _
    exact ⟨t, hstep, hsafe t hstep hsub, hsub, by simp⟩
  | true =>
    cases hr : s.remaining with
    | zero =>
      obtain ⟨i, -, ht⟩ := hgood.completeRunning_eq hb
      have hstep := (step_of_completion hb hr).trans ht
      exact ⟨_, hstep, hsafe _ hstep (by simp), by simp, by simp⟩
    | succ d =>
      obtain ⟨t, ht, htail, hrun⟩ := exists_nextAccess_eq_next (s := { s with remaining := d }) hin
      have hstep : step s = .next t := (step_of_busy hb hr).trans ht
      have hsub : t.inbox ⊆ s.inbox := htail ▸ List.tail_subset _
      refine ⟨t, hstep, hsafe t hstep hsub, hsub, fun _ hreset d' hd' => ?_⟩
      obtain rfl : d = d' := Nat.succ.inj hd'
      exact hrun hb hreset

end Sys2Proof.Machine
end

section
/-! Runs of the machine: the busy period of a command to its completion, with accesses coming meanwhile (R210) and with none (R215). -/

namespace Sys2Proof.Machine

variable {s t : State} {i : Instr}

/-- A run of `k` steps from what one step answered. -/
def runFrom (k : Nat) (o : Host.Outcome State Fault Refusal) : Host.Outcome State Fault Refusal :=
  match o with
  | .next s => core.run k s
  | .fault r => .fault r
  | .refused r => .refused r

theorem run_eq_runFrom_step (k : Nat) (s : State) : core.run (k + 1) s = runFrom k (step s) := by
  simp only [Host.Core.run]
  rw [show core.step s = step s from rfl]
  cases step s <;> rfl

theorem run_succ (h : step s = .next t) (k : Nat) : core.run (k + 1) s = core.run k t :=
  (run_eq_runFrom_step k s).trans (congrArg (runFrom k) h)

theorem run_one (s : State) : core.run 1 s = step s := by
  rw [run_eq_runFrom_step]
  cases step s <;> rfl

/-- An idle block to which no access comes stays as it is (R234 (f)). -/
theorem run_of_quiet (hb : s.status.busy = false) (hin : s.inbox = []) (k : Nat) : core.run k s = .next s := by
  induction k with
  | zero => rfl
  | succ k ih => rw [run_succ (by rw [step_of_idle hb, nextAccess_of_inbox_nil hin]), ih]

/-- With no access coming the steps of a running command pass, and it completes (R215). -/
theorem run_of_undisturbed {d : Nat} (hb : s.status.busy = true) (hin : s.inbox = []) (hr : s.remaining = d) :
    core.run (d + 1) s = completeRunning { s with remaining := 0 } := by
  induction d generalizing s with
  | zero => rw [run_one, step_of_completion hb hr, ← hr]
  | succ d ih =>
    rw [run_succ (t := { s with remaining := d }) (by rw [step_of_busy hb hr]; exact nextAccess_of_inbox_nil hin)]
    exact ih hb hin rfl

/-- The running command completes after its remaining steps (R210, R215). -/
theorem State.Safe.run_completes {d : Nat} (hs : s.Safe) (hb : s.status.busy = true) (hreset : HostAccess.reset ∉ s.inbox) (hr : s.remaining = d) :
    ∃ t : State, core.run (d + 1) s = .next t ∧ t.status.busy = false ∧ t.status.done = true ∧ t.status.err = false ∧ t.cmd = s.cmd := by
  induction d generalizing s with
  | zero =>
    obtain ⟨i, hd, hcomplete⟩ := hs.1.completeRunning_eq hb
    refine ⟨_, (run_one s).trans ((step_of_completion hb hr).trans hcomplete), ?_⟩
    simp [decode_eq_some_iff.1 hd]
  | succ d ih =>
    obtain ⟨t, hstep, hsafe, hsub, hrun⟩ := hs.exists_step_eq_next
    obtain ⟨hbusy, hcmd, hrem⟩ := hrun hb hreset d hr
    rw [run_succ hstep, ← show t.cmd = s.cmd from hcmd]
    exact ih hsafe hbusy (fun h => hreset (hsub h)) hrem

/-- To the meaning of a command it is the same whether the busy period has begun (R214). -/
theorem effectDone_acceptFor {w : Word32} (hr : s.remaining = 0) (hst : s.stores = []) : effectDone i (acceptFor 0 w s) = effectDone i s := by
  have haccept : accept (encode i) (acceptFor 0 w s) = accept (encode i) s :=
    calc accept (encode i) (acceptFor 0 w s) = accept (encode i) { s with remaining := 0, stores := [] } := rfl
      _ = accept (encode i) s := by rw [← hr, ← hst]
  exact congrArg (fun t => complete (commandEffect i.op i.alg t)) haccept

/-- The regions noted are those named at acceptance, over the memory of that moment. -/
theorem noteUnread_acceptFor (d : Nat) (w : Word32) (s t : State) : noteUnread i (acceptFor d w s) t = noteUnread i s t := by
  cases hop : i.op <;> simp only [noteUnread, hop] <;> rfl

/-- Completion of an accepted command no store came to (R215). -/
theorem completeRunning_acceptFor {w : Word32} (hd : decode w = some i) (hc : issueCheck i.op i.alg s = none) (hr : s.remaining = 0)
    (hst : s.stores = []) : completeRunning (acceptFor 0 w s) = .next (noteUnread i s (effectDone i s)) := by
  have hc' : issueCheck i.op i.alg (acceptFor 0 w s) = none := by rwa [issueCheck_congr _ _ (acceptFor_x 0 w s)]
  rw [completeRunning_of_exec hd (exec_eq_effectDone hc'), settle_of_quiet _ _ _ rfl (by simp), noteUnread_acceptFor, effectDone_acceptFor hr hst]

/-- Nothing to come: no access, and every duration 0. -/
def State.undisturbed (s : State) : State := { s with inbox := [], latency := [] }

/-- The write of a word to CMD to come, with duration `d`, and nothing else. -/
def State.withCommand (s : State) (w : Word32) (d : Nat) : State := { s with inbox := [.regWrite 0x00 w], latency := [d] }

section
variable {w : Word32} (hb : s.status.busy = false) (hd : decode w = some i)
include hb

theorem step_withCommand (d : Nat) : step (s.withCommand w d) = issue w { s.undisturbed with latency := [d] } :=
  step_of_cmd_written (s := s.withCommand w d) hb rfl

include hd

theorem step_withCommand_of_rejected {c : ErrCode} (hc : issueCheck i.op i.alg s = some c) (d : Nat) :
    step (s.withCommand w d) = .next (reject c s.undisturbed) :=
  (step_withCommand hb d).trans (issue_of_rejected (s := { s.undisturbed with latency := [d] }) hd hc)

variable (hc : issueCheck i.op i.alg s = none)
include hc

theorem step_withCommand_of_accepted_now : step (s.withCommand w 0) = .next (noteUnread i s.undisturbed (effectDone i s.undisturbed)) :=
  (step_withCommand hb 0).trans (issue_of_accepted_now (s := { s.undisturbed with latency := [0] }) hd hc rfl)

theorem step_withCommand_of_accepted_for (d : Nat) : step (s.withCommand w (d + 1)) = .next (acceptFor d w s.undisturbed) :=
  (step_withCommand hb (d + 1)).trans (issue_of_accepted_for (s := { s.undisturbed with latency := [d + 1] }) hd hc rfl)

end

/-- The outcome of a command written to an idle block does not depend on its duration when nothing comes meanwhile (R61, R215). -/
theorem run_withCommand {w : Word32} (hs : s.Good) (hb : s.status.busy = false) (hd : decode w = some i) (d : Nat) :
    core.run (d + 1) (s.withCommand w d) = core.run 1 (s.withCommand w 0) := by
  cases hc : issueCheck i.op i.alg s with
  | some c =>
    have hrun : ∀ d k, core.run (k + 1) (s.withCommand w d) = .next (reject c s.undisturbed) := fun d k =>
      (run_succ (step_withCommand_of_rejected hb hd hc d) k).trans (run_of_quiet (s := reject c s.undisturbed) hb rfl k)
    exact (hrun d d).trans (hrun 0 0).symm
  | none =>
    cases d with
    | zero => rfl
    | succ d =>
      have hcomplete : completeRunning (acceptFor 0 w s.undisturbed) = .next (noteUnread i s.undisturbed (effectDone i s.undisturbed)) :=
        completeRunning_acceptFor (s := s.undisturbed) hd hc (hs.remaining_of_idle hb) (hs.stores_of_idle hb)
      have hdelayed : core.run (d + 2) (s.withCommand w (d + 1)) = completeRunning (acceptFor 0 w s.undisturbed) :=
        (run_succ (step_withCommand_of_accepted_for hb hd hc d) _).trans (run_of_undisturbed (s := acceptFor d w s.undisturbed) rfl rfl rfl)
      have hnow := (run_one _).trans (step_withCommand_of_accepted_now hb hd hc)
      exact (hdelayed.trans hcomplete).trans hnow.symm

end Sys2Proof.Machine
end

section
/-! STATUS as a word after each of its changes, the words it can be, and the regions checked at issue in the form the statements use (R24, R212, R213, R217). -/

namespace Sys2Proof.Machine

open Sys2Proof.Statement

variable {s : State} {i : Instr}

/-- A command has a region that wraps exactly when one of its regions in R51's table does. -/
theorem someRegionWraps_iff : someRegionWraps i s ↔ ∃ r ∈ inputRegions i.op s ++ [outputRegion i.op i.alg s], 2 ^ 32 < r.1 + r.2 := by
  cases hop : i.op <;> simp [someRegionWraps, hop, inputRegions, outputRegion, sourceRegion, keyRegion]

theorem effectDone_eq_finished (i : Instr) (s : State) : effectDone i s = finished (encode i) (commandEffect i.op i.alg s) := by
  change complete (commandEffect i.op i.alg (accept (encode i) s)) = _
  cases i.op <;> rfl

theorem statusWord_statusRejected {st : Status} (hb : st.busy = false) (c : ErrCode) : statusWord (statusRejected c st) =
    (0x4 : Word32) ||| (errValue c).setWidth 32 <<< 4 ||| (if st.wdrop then 0x100 else 0) := by
  simp only [statusWord, statusRejected_busy, hb, statusRejected_done, statusRejected_err, statusRejected_ecode, statusRejected_wdrop]
  cases c <;> cases st.wdrop <;> decide

theorem statusWord_statusAccepted (st : Status) : statusWord (statusAccepted st) = (0x1 : Word32) ||| (if st.wdrop then 0x100 else 0) := by
  cases hw : st.wdrop <;> simp [statusWord, bit32, hw]

theorem statusWord_finished (w : Word32) (s : State) :
    statusWord (finished w s).status = (0x2 : Word32) ||| (if s.status.wdrop then 0x100 else 0) := by
  cases hw : s.status.wdrop <;> simp [statusWord, finished, bit32, hw]

theorem exists_errValue_eq : ∀ e : BitVec 4, e ≠ 0 → e ≤ 4 → ∃ c, errValue c = e := by
  intro e hne hle
  have he : e = 1 ∨ e = 2 ∨ e = 3 ∨ e = 4 := by revert e; decide
  obtain rfl | rfl | rfl | rfl := he
  exacts [⟨.illCmd, rfl⟩, ⟨.rounds, rfl⟩, ⟨.addr, rfl⟩, ⟨.overlap, rfl⟩]

/-- A legal STATUS, WDROP apart, is the one of reset, of a running command, of a completed one, or of a rejection with one of the four codes (R24, R217). -/
theorem Status.legal_cases {st : Status} (h : st.legal = true) : ∃ b : Bool,
    st = ⟨false, false, false, 0, b⟩ ∨ st = ⟨true, false, false, 0, b⟩ ∨ st = ⟨false, true, false, 0, b⟩ ∨
      ∃ c, st = ⟨false, false, true, errValue c, b⟩ := by
  obtain ⟨busy, done, err, ecode, wdrop⟩ := st
  simp only [Status.legal, Bool.and_eq_true, Bool.not_eq_true', beq_iff_eq, decide_eq_true_eq] at h
  obtain ⟨⟨⟨⟨hbd, hbe⟩, hde⟩, herr⟩, hle⟩ := h
  refine ⟨wdrop, ?_⟩
  cases err with
  | true =>
    obtain ⟨c, rfl⟩ := exists_errValue_eq ecode (bne_iff_ne.1 herr.symm) hle
    obtain rfl : busy = false := by simpa using hbe
    obtain rfl : done = false := by simpa using hde
    exact .inr (.inr (.inr ⟨c, rfl⟩))
  | false =>
    obtain rfl : ecode = 0 := bne_eq_false_iff_eq.1 herr.symm
    cases busy with
    | true =>
      obtain rfl : done = false := by simpa using hbd
      exact .inr (.inl rfl)
    | false =>
      cases done with
      | true => exact .inr (.inr (.inl rfl))
      | false => exact .inl rfl

end Sys2Proof.Machine
end

section
namespace Sys2Proof.Proofs

open Sys2Proof.Machine Sys2Proof.Statement

/-- Settles O58: well-formed accesses and a command that passed its checks are all a step meets. -/
theorem safeStatesNeverStop : Obligations.SafeStatesNeverStop := fun s hs =>
  let ⟨t, ht, hsafe, _⟩ := State.Safe.exists_step_eq_next (s := s) hs
  ⟨t, ht, hsafe⟩

/-- Settles O51, by induction on the steps left. -/
theorem runningCommandCompletes : Obligations.RunningCommandCompletes := fun _ hs hb hreset => State.Safe.run_completes hs hb hreset rfl

/-- Settles O50: a word rejected leaves the block idle; an accepted command to which no access comes completes from the state of its acceptance. -/
theorem delayedCommandEqualsImmediate : Obligations.DelayedCommandEqualsImmediate := fun _ _ _ d hs hb hd => run_withCommand hs hb hd d

/-- Settles O48: the word is issued in its step, and its duration is not 0. -/
theorem acceptanceStartsTheBusyPeriod : Obligations.AcceptanceStartsTheBusyPeriod := by
  intro s w i rest d ds hb hin hl hd hc
  rw [step_of_cmd_written hb hin, issue_of_accepted_for (s := { s with inbox := rest }) (d := d) hd hc (by simp [hl])]
  simp only [hl]
  rfl

/-- Settles O31, check by check. -/
theorem issueChecksInOrder : Obligations.IssueChecksInOrder := by
  refine ⟨fun w s h => issue_of_illegalWord h s, fun i s => ?_⟩
  simp only [someRegionWraps_iff]
  refine ⟨fun hrounds => exec_eq_rejectedWith (issueCheck_eq_rounds hrounds),
    fun hrounds hwraps => exec_eq_rejectedWith (issueCheck_eq_addr hrounds hwraps),
    fun hrounds hfits hshares => exec_eq_rejectedWith (issueCheck_eq_overlap hrounds ?_ hshares),
    fun hrounds hfits hshares => ⟨commandEffect i.op i.alg s, ?_⟩⟩
  · exact fun r hr => Nat.le_of_not_lt fun hlt => hfits ⟨r, hr, hlt⟩
  · rw [← effectDone_eq_finished]
    exact exec_eq_effectDone (issueCheck_eq_none hrounds (fun r hr => Nat.le_of_not_lt fun hlt => hfits ⟨r, hr, hlt⟩) hshares)

/-- Settles O32: the words of the three changes of STATUS. -/
theorem statusWordsOfIssue : Obligations.StatusWordsOfIssue := by
  refine ⟨fun c s => ⟨reject_eq_rejectedWith c s, fun hb => statusWord_statusRejected hb c⟩, fun s hb hw => ?_,
    fun w s => ⟨rfl, statusWord_statusAccepted s.status⟩, fun s => rfl, statusWord_finished⟩
  simp [statusWord_statusRejected hb, hw, errValue]

/-- Settles O59: each legal STATUS has one of the seven words. -/
theorem reachableStatusValues : Obligations.ReachableStatusValues := by
  intro s hs
  refine ⟨top_statusWord s.status, ?_⟩
  obtain ⟨b, hst | hst | hst | ⟨c, hst⟩⟩ := Status.legal_cases hs.statusLegal <;> rw [hst]
  case inr.inr.inr => cases c <;> cases b <;> decide
  all_goals cases b <;> decide

end Sys2Proof.Proofs
end
